-- ==== Sys2Proof/Word.lean ====
section
/-! DEFINITION. The plainest data of the part: characters, text and bytes. The part has no machine word: its
quantities are integers (00_scope.md, Conventions: "Quantities are integers"), so only what the manual treats as
bits (a received character, a glyph row, a raster row) is a bit vector. -/

namespace Sys2Proof

/-- A byte: a received character (R166: 8 data bits) or a row byte of a glyph (R127). -/
abbrev Byte := BitVec 8

/-- A text field: printable characters (00_scope.md, Conventions, Character set). -/
abbrev Text := List Char

end Sys2Proof
end

