-- ==== Sys2Proof/Syntax.lean ====
section
/-! DEFINITION. The commands of the part: one constructor of `Instr` for each row of spec/opcode_table.json. The
first group are the workstation's requests, with their fields as the owner reads them (R172); the second group are the
events at the stand, on the line and at the supply.

A number field is an `Int` of any size (R172: "A number of any size is read as written"). A field that is a word is
given as `Option` of the words its rule allows, with `none` for any other word (which the owner refuses RANGE, R172).
An optional field is an `Option`, with `none` when it is left out. -/

namespace Sys2Proof

/-- R92, R76: an item's mode, and the source of a context. -/
inductive Source where
  | copy | stage | manual
  deriving DecidableEq, Repr

/-- R102: the two lamps; R69: the two source trims bear the same two names. -/
inductive Light where
  | copy | stage
  deriving DecidableEq, Repr

/-- R91: an order's class. -/
inductive OrderClass where
  | normal | rush
  deriving DecidableEq, Repr

/-- R152: an account's state, OPEN or CLOSED. -/
inductive AcctState where
  | opened | closed
  deriving DecidableEq, Repr

/-- R29: the kind of a zone entry. -/
inductive ZoneKind where
  | leader | splice | note
  deriving DecidableEq, Repr

/-- R24: the encoder modes. -/
inductive EncMode where
  | quad | pulsedir | count
  deriving DecidableEq, Repr

/-- R177: the stored configuration fields whose value is a number. -/
inductive NumField where
  | leader | tail | slipTol | gateTol | slowDist | settle | stall | samples | openTo | closeTo | warmup | baud
  deriving DecidableEq, Repr

/-- R177: the stored configuration fields. -/
inductive ConfField where
  | encoder
  | num (f : NumField)
  deriving DecidableEq, Repr

/-- R177: the two fields of a CONF write as its owner reads them. -/
inductive ConfSetting where
  /-- a field name that is not in the table of R177 -/
  | unknown
  /-- ENCODER with a word, `none` for a word that is no encoder mode -/
  | encoder (mode : Option EncMode)
  /-- any other field with its number -/
  | num (f : NumField) (value : Int)
  deriving DecidableEq, Repr

/-- R31: one entry of a ZONE request. -/
structure ZoneArg where
  kind : Option ZoneKind
  low : Int
  high : Int
  deriving DecidableEq, Repr

/-- R151: one entry of a TIER request. -/
structure TierArg where
  low : Int
  high : Int
  discount : Int
  deriving DecidableEq, Repr

/-- The commands of the part, in the order of spec/opcode_table.json. -/
inductive Instr where
  -- requests: the roll and the frame table
  | load (film : Int) (length : Option Int)
  | unld
  | drop (roll : Int)
  | fram (roll frame : Int)
  | rollList
  | rollQuery (roll : Int)
  | pick (frames : List (Int × Int))
  | rjct (roll frame : Int)
  -- requests: film transport
  | markRegister (n count : Int)
  | markRemove (n : Int)
  | markList
  | zoneWrite (entries : List ZoneArg)
  | zoneClear
  | zoneList
  | rampWrite (length first : Int) (intervals : List Int)
  | rampList (first : Int)
  | wind
  | confWrite (setting : ConfSetting)
  | confQuery (field : Option ConfField)
  | confList
  -- requests: light metering
  | offsWrite (slot channel value : Int)
  | offsEmpty (slot : Int)
  | offsList
  | gainWrite (channel value : Int)
  | gainQuery (channel : Option Int)
  | calbStart (channel reference : Int)
  | calbQuery (channel : Option Int)
  | wtchWrite (n mask low high : Int)
  | wtchQuery (n : Option Int)
  | read (channel : Option Int)
  -- requests: exposure and bracketing
  | filmWrite (id : Int) (name code : Text) (k : Int) (recip : List (Int × Int))
  | filmQuery (id : Option Int)
  | planWrite (id : Int) (offsets : List Int)
  | planQuery (id : Option Int)
  | trimWrite (source : Option Light) (value : Int)
  | trimQuery (source : Option (Option Light))
  | ctxq
  | calc (film : Int) (mode : Option Source) (value filter plan : Int)
  -- requests: orders and the stand cycle
  | ordrCreate (order account : Int) (cls : Option OrderClass)
  | ordrQuery (order : Option Int)
  | itemAdd (order : Int) (catalogue title credit : Text) (mode : Option Source) (value plan copies : Int)
      (lamp : Option (Option Light))
  | itemQuery (order item : Int)
  | post (order : Int)
  | hold (order : Int)
  | free (order : Int)
  | cnclOrder (order : Int)
  | cnclItem (order item : Int)
  | run
  | go
  | liteSet (lamp : Option Light) (state : Option Bool)
  | liteQuery
  | cycl
  | paus
  | abrt
  | rsum
  -- requests: mount labels
  | glyfLoad (code : Int) (glyphs : List Text)
  | glyfQuery (code : Int)
  | emblWindow (x0 x1 y0 y1 : Int)
  | emblClear
  | emblQuery
  | dots (data : Text)
  | ltxt (roll frame : Int)
  | prnt (roll : Int)
  | pstp
  | rprt (roll frame : Int)
  | densWrite (value : Int)
  | densQuery
  | lque
  -- requests: charges and accounts
  | rateWrite (cls frame reject spoil label minimum rush : Int)
  | rateQuery (cls : Option Int)
  | tierWrite (entries : List TierArg)
  | tierClear
  | tierList
  /-- `allowance`: `none` left out, `some none` given empty; `state`: `none` left out, `some none` another word -/
  | acctWrite (account : Int) (name : Text) (cls : Int) (allowance : Option (Option Int))
      (state : Option (Option AcctState))
  | acctQuery (account : Option Int)
  | acctRemove (account : Int)
  | zero (account : Int)
  | take (n : Int)
  | takeState
  -- requests: general
  | stat
  /-- `all`: whether the one field is the word ALL -/
  | wipe (all : Bool)
  | rset
  | mems
  -- events: film transport
  /-- the encoder lines change to these levels (true is high) -/
  | countEvent (enca encb : Bool)
  | indexEdge
  | filmEndChange (isOpen : Bool)
  | stepTimerExpiry
  | stallLimit
  | settleExpiry
  -- events: light metering
  /-- the sum of the 16 conversions of the channel whose turn it is -/
  | readingComplete (reading : Nat)
  -- events: the stand cycle and the shutter
  | footswitchPress
  | warmupExpiry
  | contactOpen
  | openTimeout
  | plannedTicksExpiry
  | contactClosed
  | closeTimeout
  -- events: the label printer
  | feedRowStep
  | feedRowLimit
  | labelEdge
  | strobeEnd
  | rowTransferComplete
  | printPaperStep
  | presentRowStep
  | labelComplete
  | paperOut
  | paperIn
  | paperWaitExpiry
  -- events: the charge unit's waiting list
  | waitingListWork
  -- events: the line
  /-- a received character, and whether its stop bit was found low -/
  | characterReceived (c : Byte) (framingError : Bool)
  | lineComplete
  | partialLineTimeout
  | overrunLineEnd
  | overrunLineTimeout
  | dispatch
  | lineSent
  -- events: supply and reset
  | powerFailWarning
  | powerOn
  | wipeColdStart
  | resetLine
  | resetRelease
  | vccFailure
  | batteryExhausted
  deriving DecidableEq, Repr

end Sys2Proof
end

