-- ==== Sys2Proof/Config.lean ====
section
/-! DEFINITION. The capacities and fixed numbers of the Erjika 730, and the one free value. Every number stands in a rule of
the manual; the rule is named beside it. -/

namespace Sys2Proof.Config

/-- R1: the roll directory holds at most 4 roll records. -/
def maxRolls : Nat := 4
/-- R8: the frame table holds at most 1,024 frame records. -/
def maxFrames : Nat := 1024
/-- R6: a roll holds at most 1000 frames. -/
def maxRollFrames : Nat := 1000
/-- R25: the lowest sprocket count. -/
def countMin : Int := -8388608
/-- R25: the highest sprocket count. -/
def countMax : Int := 8388607
/-- R83, R87: the tick counter stops at 1,048,575. -/
def maxTicks : Nat := 1048575
/-- R91: the order book holds at most 32 orders. -/
def maxOrders : Nat := 32
/-- R92: the item pool holds 256 item records. -/
def maxItems : Nat := 256
/-- R91: an order holds 0..24 items. -/
def maxOrderItems : Nat := 24
/-- R152: the account table holds at most 64 accounts. -/
def maxAccounts : Nat := 64
/-- R161: the charge journal holds at most 128 entries. -/
def maxJournal : Nat := 128
/-- R152: the highest money figure, 2,147,483,647 mills. -/
def maxMoney : Nat := 2147483647
/-- R137: the label queue holds at most 64 frame references. -/
def maxLabels : Nat := 64
/-- R170: the reply queue holds at most 4 lines. -/
def maxReplies : Nat := 4
/-- 09_the_line_link.md: two receive line slots. -/
def maxSlots : Nat := 2
/-- R167: a line stores at most 160 characters. -/
def maxLine : Nat := 160
/-- R171: a line has at most 24 fields. -/
def maxFields : Nat := 24
/-- R167: a slot's overrun count is 0..255. -/
def maxOverrun : Nat := 255
/-- R139: the feed limit, 120 rows. -/
def feedLimit : Nat := 120
/-- R140: a label has 56 printed rows. -/
def labelRows : Nat := 56
/-- R143: a label is presented by 24 rows. -/
def presentRows : Nat := 24

/-- R36: the default ramp table of a cold start. -/
def defaultRamp : List Nat := [5000, 3600, 2800, 2300, 2000, 1800, 1660, 1560]

/-- R71: FRAC of m, in twelfths. -/
def frac : List Nat := [0, 1, 2, 3, 4, 5, 6, 6, 7, 8, 8, 9, 10, 10, 11, 11]

/-- R74: ANTILOG of r. -/
def antilog : List Nat := [256, 271, 287, 304, 323, 342, 362, 384, 406, 431, 456, 483]

/-- R179, R180: a free value: how many retained writes of the step that the power-fail warning of the given number falls in came
before it (log entry 52). -/
opaque writesBefore : Nat → Nat

end Sys2Proof.Config
end

