-- ==== Sys2Proof/Machine/State.lean ====
section
/-! DEFINITION. The state of the part, as plain data, and its value after a cold start (`State.reset`).

`Store` is the battery-held retained store (the table of chapter 10.1); every other block is volatile. Each command is
one indivisible step (95_what_each_step_holds.md), so the live copy of a retained record and the battery-held copy of it
never differ between steps, and one copy stands for both (log entry 3). -/

namespace Sys2Proof.Machine

/-! ## Why a step can stop -/

/-- The part reports no fault of its own that stops it: every failure the manual names (a jam, a shutter fault, a paper
loss) is a state of the part with a notice. So this type has no constructor: no command faults. -/
inductive Fault where
  deriving DecidableEq, Repr

/-- Why a command has no meaning. -/
inductive Refusal where
  /-- raised by `exec` alone, for a row of the table not modelled yet; no arm raises it now. Safe: nothing is claimed. -/
  | notModelled (mnemonic : String)
  /-- raised by READING_COMPLETE with a sum no reading can have (R49: a reading is in 0..65,520). Safe: no such event
  occurs at the part. -/
  | impossibleReading
  deriving DecidableEq, Repr

/-! ## The roll and the frame table (chapter 1) -/

/-- R3: the five states of a roll. -/
inductive RollState where
  | threading | loaded | ended | closed | settled
  deriving DecidableEq, Repr

/-- R1: why threading stopped without a usable frame. -/
inductive ThreadFault where
  | jam | slip | tableFull
  deriving DecidableEq, Repr

/-- R1: a roll record. -/
structure Roll where
  number : Nat
  film : Nat
  state : RollState
  base : Nat
  length : Option Nat
  frameCount : Nat
  tail : Option Nat
  positionValid : Bool
  fault : Option ThreadFault
  deriving DecidableEq, Repr

/-- R9: the states of a frame record. -/
inductive FrameState where
  | positioned | exposed | spoiled | void
  deriving DecidableEq, Repr

/-- R9: the VOID causes and the spoil causes. -/
inductive FrameCause where
  | zone | misreg | unload | power | wind | lamp | shutClose | abort
  deriving DecidableEq, Repr

/-- R12: the selection of an EXPOSED frame. -/
inductive Selection where
  | undecided | kept | rejected
  deriving DecidableEq, Repr

/-- R13: the label status of a frame. -/
inductive LabelStatus where
  | none | queued | printed
  deriving DecidableEq, Repr

/-- R75: the flags of a context, a set of six. -/
structure Flags where
  meterHigh : Bool
  meterLow : Bool
  manual : Bool
  recip : Bool
  clampLow : Bool
  clampHigh : Bool
  deriving DecidableEq, Repr

/-- R9, R76: an item reference. -/
structure ItemRef where
  order : Nat
  item : Nat
  set : Nat
  step : Nat
  offset : Int
  deriving DecidableEq, Repr

/-- R9: the computed part of a frame; `light` is absent for MANUAL. -/
structure Computed where
  logT : Nat
  planned : Nat
  light : Option Nat
  flags : Flags
  deriving DecidableEq, Repr

/-- R9: a frame record. A field that is present in some states only is an `Option`. -/
structure Frame where
  roll : Nat
  number : Nat
  state : FrameState
  gateCount : Option Int
  cause : Option FrameCause
  ref : Option ItemRef
  computed : Option Computed
  measured : Option Nat
  selection : Option Selection
  label : LabelStatus
  charged : Bool
  deriving DecidableEq, Repr

/-! ## Film transport (chapter 2) -/

/-- R29: a zone entry. -/
structure Zone where
  kind : ZoneKind
  low : Int
  high : Int
  deriving DecidableEq, Repr

/-- R26: the states of the index check. -/
inductive IndexState where
  | starting | running
  deriving DecidableEq, Repr

/-- R26: the index check. It holds its reference count in STARTING too, where no edge reads it. -/
structure IndexCheck where
  state : IndexState
  reference : Int
  deriving DecidableEq, Repr

/-- R27: a SLOW, STOP or LIMIT target entry. -/
structure Target where
  value : Int
  armed : Bool
  deriving DecidableEq, Repr

/-- R27: a MARK target entry. -/
structure Mark where
  number : Nat
  roll : Nat
  value : Int
  armed : Bool
  deriving DecidableEq, Repr

/-- R35: the direction of the ramp feeder. -/
inductive RampDir where
  | accel | decel
  deriving DecidableEq, Repr

/-- R36: a staged ramp table being built: the length it was begun with and the intervals it holds. -/
structure StagedRamp where
  length : Nat
  intervals : List Nat
  deriving DecidableEq, Repr

/-- 2.6: who asked for an advance. -/
inductive Requester where
  | cycle | wind | load
  deriving DecidableEq, Repr

/-- R40, R43, R44: why stepping ends when the running interval expires. -/
inductive StepEnd where
  | stop | limit | abort
  deriving DecidableEq, Repr

/-- The phase of an advance in flight; the settle timer runs for `ms` milliseconds, the settle time in force when it
started (R45). -/
inductive AdvancePhase where
  | stepping (ending : Option StepEnd)
  | settling (ms : Nat)
  deriving DecidableEq, Repr

/-- R37..R41: the advance in flight. `dest` is the destination of its aim, `noted` whether a NOTE entry decided the aim's
window (R30), `stallWatch` the stall watch and `counted` whether a count event came since the last step (R39). -/
structure Advance where
  requester : Requester
  phase : AdvancePhase
  dest : Int
  noted : Bool
  stallWatch : Nat
  counted : Bool
  deriving DecidableEq, Repr

/-- The volatile state of the Film Transport Unit. -/
structure Transport where
  count : Int
  held : Bool
  index : IndexCheck
  slow : Option Target
  stop : Option Target
  limit : Option Target
  marks : List Mark
  phase : Nat
  staged : Nat
  ired : Bool
  active : Nat
  buffered : Nat
  rampPos : Nat
  rampDir : RampDir
  stagedRamp : Option StagedRamp
  advance : Option Advance
  filmEndOpen : Bool
  deriving DecidableEq, Repr

/-- R33: the four coils of the motor, driven by the phase outputs PHA to PHD: true is energised. -/
structure Coils where
  a : Bool
  b : Bool
  c : Bool
  d : Bool
  deriving DecidableEq, Repr

/-! ## Light metering (chapter 3) -/

/-- R50: what an offset slot holds. -/
structure OffsetSlot where
  channel : Fin 4
  offset : Nat
  deriving DecidableEq, Repr

/-- R61: a watch window; `mask` is the sum of 1, 2, 4 and 8 for channels 0 to 3. -/
structure Window where
  mask : Nat
  low : Nat
  high : Nat
  deriving DecidableEq, Repr

/-- R62: a last trip record. -/
structure Trip where
  channel : Fin 4
  value : Nat
  deriving DecidableEq, Repr

/-- R57: a running calibration. -/
structure Calibration where
  channel : Fin 4
  reference : Nat
  sum : Nat
  taken : Nat
  deriving DecidableEq, Repr

/-- R54: a metering, begun or waiting for a calibration. -/
structure Metering where
  channel : Fin 4
  samples : Nat
  begun : Bool
  sum : Nat
  taken : Nat
  deriving DecidableEq, Repr

/-- R60: a last calibration record. -/
structure CalRecord where
  ok : Bool
  reference : Nat
  average : Nat
  candidate : Nat
  deriving DecidableEq, Repr

/-- The volatile state of the Meter Unit; `turn` is the channel the converter is serving (R49). -/
structure Meter where
  turn : Fin 4
  latest : Vector (Option Nat) 4
  live : Bool
  trips : Vector (Option Trip) 3
  calibration : Option Calibration
  metering : Option Metering
  records : Vector (Option CalRecord) 4
  deriving DecidableEq, Repr

/-! ## Exposure and bracketing (chapter 4) -/

/-- R66: one step of a reciprocity list. -/
structure RecipStep where
  threshold : Nat
  extra : Nat
  deriving DecidableEq, Repr

/-- R66: a film record. -/
structure FilmRecord where
  name : Text
  code : Text
  k : Nat
  recip : List RecipStep
  deriving DecidableEq, Repr

/-- R76: a context. The item reference holds the offset. -/
structure Context where
  ref : ItemRef
  logT : Nat
  planned : Nat
  flags : Flags
  light : Option Nat
  source : Source
  film : Nat
  deriving DecidableEq, Repr

/-- R83: the pending outcome of a closing. -/
inductive PendingOutcome where
  | normal | lamp
  deriving DecidableEq, Repr

/-- R83: the exposure phase. In CLOSING it holds the pending outcome (none after an ABRT in OPEN) and whether an ABRT came
during the closing, after which a context is not returned to the queue (R88). -/
inductive ShutterPhase where
  | idle | opening | opened
  | closing (pending : Option PendingOutcome) (aborted : Bool)
  deriving DecidableEq, Repr

/-- The Shutter Timer. `timer` is the length in ms of the open or close timeout that is running (R84). -/
structure Shutter where
  phase : ShutterPhase
  held : Option Context
  ticks : Nat
  measured : Option Nat
  contactOpen : Bool
  coil : Bool
  timer : Option Nat
  deriving DecidableEq, Repr

/-! ## Orders and the stand cycle (chapter 5) -/

/-- R92: an item's mode with the fields that the mode has. -/
inductive ItemMode where
  | copy (filter : Int)
  | stage (filter : Int)
  | manual (log : Nat) (lamp : Light)
  deriving DecidableEq, Repr

/-- R97: the states of an item. -/
inductive ItemState where
  | pending | active | done | cancelled | settled
  deriving DecidableEq, Repr

/-- R77: the status of a step. -/
inductive StepStatus where
  | pending | queued | done
  deriving DecidableEq, Repr

/-- R92: the captured rates. -/
structure Rates where
  frame : Nat
  reject : Nat
  spoil : Nat
  label : Nat
  rush : Nat
  deriving DecidableEq, Repr

/-- R92: a stored light value and its METER_HIGH mark. -/
structure StoredLight where
  light : Nat
  high : Bool
  deriving DecidableEq, Repr

/-- R92: an item record; `number` is its place in its order, counted from 1. -/
structure Item where
  number : Nat
  catalogue : Text
  title : Text
  credit : Text
  mode : ItemMode
  plan : Nat
  copies : Nat
  state : ItemState
  cancelPending : Bool
  captured : Option (List Int)
  rates : Option Rates
  estimate : Nat
  stored : Option StoredLight
  currentSet : Option Nat
  steps : Option (List StepStatus)
  setsDone : Nat
  kept : Nat
  rejected : Nat
  spoiled : Nat
  labels : Nat
  deriving DecidableEq, Repr

/-- R91: the hold causes. -/
inductive HoldCause where
  | host | allowance | closed
  deriving DecidableEq, Repr

/-- R96: the states of an order; HELD has its cause. -/
inductive OrderState where
  | building | waiting | active | done
  | held (cause : HoldCause)
  deriving DecidableEq, Repr

/-- R91: an order record. -/
structure Order where
  number : Nat
  account : Nat
  cls : OrderClass
  state : OrderState
  minimum : Option Nat
  running : Nat
  items : List Item
  deriving DecidableEq, Repr

/-- R91: the order book: the posted orders in the posting list's order, and the BUILDING orders in the order of their
creation. A posting position is a place in `posted`, counted from 1. -/
structure Book where
  posted : List Order
  building : List Order
  deriving DecidableEq, Repr

/-- R101: the waiting causes. -/
inductive WaitCause where
  | noRoll | noItem
  deriving DecidableEq, Repr

/-- R101: the halt causes. -/
inductive HaltCause where
  | rollEnd | tableFull | jam | slip | lamp | shutOpen | shutClose
  deriving DecidableEq, Repr

/-- R101: the cycle state, with the waiting cause, or the halt cause and the halt roll. Both go with the state HALTED, so an ABRT
or a CNCL out of it clears the halt roll too, which R99 and R113 leave open (log entry 64). -/
inductive CycleState where
  | stopped | place | warmup | metering | exposing | winding
  | waiting (cause : WaitCause)
  | halted (cause : HaltCause) (roll : Option Nat)
  deriving DecidableEq, Repr

/-- R102: a lamp and its warm flag. -/
structure LampState where
  on : Bool
  warm : Bool
  deriving DecidableEq, Repr

/-- The Stand Cycle Controller. `warmTimer` is the warm-up time in ms of the warm-up that is running (R106). -/
structure Cycle where
  state : CycleState
  pause : Bool
  copyLamp : LampState
  stageLamp : LampState
  warmTimer : Option Nat
  deriving DecidableEq, Repr

/-! ## Composing and printing mount labels (chapters 6 and 7) -/

/-- R118: a raster of 56 rows of 320 dots; column 0 is the most significant bit of a row. -/
abbrev LabelRaster := Vector (BitVec 320) 56

/-- R130: a raster of 56 rows of 64 dots; column 0 is the most significant bit of a row. -/
abbrev EmblemRaster := Vector (BitVec 64) 56

/-- R127: 95 glyphs of 12 row bytes, for the codes 32 to 126. -/
abbrev GlyphTable := Vector (Vector Byte 12) 95

/-- The volatile state of the Label Composer: the emblem window (R130), the DOTS stream (R132: ENDED is none, RUNNING has the
window row and the byte where the next byte goes) and the label raster. -/
structure Composer where
  x0 : Nat
  x1 : Nat
  y0 : Nat
  y1 : Nat
  stream : Option (Nat × Nat)
  raster : LabelRaster
  deriving DecidableEq, Repr

/-- R136: the stall causes. -/
inductive StallCause where
  | noGap | paper
  deriving DecidableEq, Repr

/-- R136: the channel state, with the stall cause while STALLED. -/
inductive ChanState where
  | idle | feeding | printing | presenting
  | stalled (cause : StallCause)
  deriving DecidableEq, Repr

/-- R136: the kind of the label in hand. -/
inductive LabelKind where
  | queue | rprt
  deriving DecidableEq, Repr

/-- R136: the label in hand. -/
structure LabelHand where
  roll : Nat
  frame : Nat
  kind : LabelKind
  deriving DecidableEq, Repr

/-- The volatile state of the Label Print Channel. `strobe` is in hundredths of a millisecond (R147). `transferring`,
`strobing` and `stepping` say which of the three parts of a row's printing are under way (R140); `shift` is the row last
transferred into the head and `latch` the row last latched, as its strobe begins (log entry 78). -/
structure Printer where
  state : ChanState
  hand : Option LabelHand
  rows : Nat
  strobe : Option Nat
  paperOut : Bool
  paperWait : Bool
  queue : List (Nat × Nat)
  transferring : Bool
  strobing : Bool
  stepping : Bool
  shift : BitVec 320
  latch : BitVec 320
  deriving DecidableEq, Repr

/-! ## Charges and accounts (chapter 8) -/

/-- R150: a rate class. -/
structure RateClass where
  frame : Nat
  reject : Nat
  spoil : Nat
  label : Nat
  minimum : Nat
  rush : Nat
  deriving DecidableEq, Repr

/-- R151: a present tier entry. -/
structure Tier where
  low : Nat
  high : Nat
  discount : Nat
  deriving DecidableEq, Repr

/-- R152: an account record. -/
structure Account where
  number : Nat
  name : Text
  cls : Nat
  allowance : Option Nat
  charged : Nat
  committed : Nat
  period : Nat
  state : AcctState
  saturated : Bool
  deriving DecidableEq, Repr

/-- R161: what an ITEM entry holds beside a MINIMUM entry's fields. -/
structure ItemCharge where
  item : Nat
  kept : Nat
  rejected : Nat
  spoiled : Nat
  labels : Nat
  deriving DecidableEq, Repr

/-- R161: a journal entry; `detail` is present for an ITEM entry and absent for a MINIMUM entry. -/
structure Entry where
  seq : Nat
  account : Nat
  order : Nat
  detail : Option ItemCharge
  amount : Nat
  deriving DecidableEq, Repr

/-- R162: a place on the waiting list. -/
inductive Waiting where
  | item (order item : Nat)
  | minimum (order : Nat)
  deriving DecidableEq, Repr

/-! ## The line link (chapter 9) -/

/-- R173: the refusal codes. -/
inductive Code where
  | form | verb | range | busy | full | none | dup | state | open_ | long | over | part
  deriving DecidableEq, Repr

/-- R173: a field of a reply. -/
inductive RField where
  | empty
  | num (n : Int)
  | word (w : Text)
  | text (t : Text)
  | frame (roll frame : Nat)
  /-- numbers joined by full stops, as order.item.set -/
  | dotted (ns : List Nat)
  /-- words joined by "+" -/
  | plus (ws : List Text)
  | hex (bytes : List Byte)
  deriving DecidableEq, Repr

/-- What follows the last character of a reply: nothing, the new line rate (R166), the end of an RSET's discarding (R178), or
the cold start of a WIPE (R182). -/
inductive After where
  | nothing | baud (rate : Nat) | rset | wipe
  deriving DecidableEq, Repr

/-- An owner's answer to a request (R173). -/
inductive Answer where
  | accept (fields : List RField) (clamped : List Nat) (after : After)
  | refuse (code : Code) (field : Option Nat)
  deriving DecidableEq, Repr

/-- A line of the reply queue: the verb as it is written, and the answer. -/
structure Reply where
  verb : Text
  answer : Answer
  deriving DecidableEq, Repr

/-- R167: the state of a line slot that is not EMPTY. -/
inductive SlotState where
  | filling | ready | timedOut
  deriving DecidableEq, Repr

/-- R167: a line slot that is not EMPTY: the stored characters, the two marks and the overrun count. `count` is the number of
the line's characters so far, stored or not, up to 160, and `badHead` says that one of its first four is not stored (log entry
51). -/
structure LineSlot where
  state : SlotState
  chars : Text
  count : Nat
  badHead : Bool
  tooLong : Bool
  malformed : Bool
  overrun : Nat
  deriving DecidableEq, Repr

/-- A line that is arriving and is not stored: an overrun line (R168), or a line discarded around RSET or WIPE (R178, R182). -/
inductive LostLine where
  | overrun | discarded
  deriving DecidableEq, Repr

/-- R174: what the ROLL and LABEL notices and the DONE notice refer to beside their numbers. -/
inductive LabelEvent where
  | noGap | paper | empty | rprt | stopped
  deriving DecidableEq, Repr

/-- R174: the notice kinds, in the table's order, which is the order of sending (R175). -/
inductive NoticeKind where
  | place | halt | done | roll | zone | label | settle | meter
  deriving DecidableEq, Repr

/-- R174: a notice with its reference. -/
inductive Notice where
  | place (order item : Nat)
  | halt (cause : HaltCause) (wind : Bool)
  | done (order item : Nat) (cancelled : Bool)
  | rollState (roll : Nat) (state : RollState)
  | rollMark (roll mark : Nat)
  | zone (roll frame : Nat)
  | label (roll : Nat) (event : LabelEvent)
  | settle (entries : Nat)
  | meter (channel : Nat) (ok : Bool) (gain : Nat)
  deriving DecidableEq, Repr

/-- R175: the transmitter: idle, sending the head of the reply queue, or sending a notice. -/
inductive Tx where
  | idle | reply
  | notice (n : Notice)
  deriving DecidableEq, Repr

/-- The Line Link's receiving side and reply queue. `slots` holds the slots that are not EMPTY, in the order their lines
began; `overOwed` the OVER replies still to be placed (R168); `discard` says that lines are being discarded, from an
accepted RSET or WIPE (R178, R182); `rate` is the line rate in force. -/
structure Link where
  slots : List LineSlot
  lost : Option LostLine
  replies : List Reply
  overOwed : Nat
  discard : Bool
  rate : Nat
  deriving DecidableEq, Repr

/-- The sending side of the Line Link: the transmitter and the pending notices. -/
structure Outbox where
  tx : Tx
  notices : List Notice
  deriving DecidableEq, Repr

/-! ## Retained memory, supply and reset (chapter 10) -/

/-- R186: the kinds of start. -/
inductive StartKind where
  | cold | wipe | warm | resetLine | rset
  deriving DecidableEq, Repr

/-- R186: the start record. `gate` is the gate frame the last warm start treated, with whether it became SPOILED. -/
structure StartRecord where
  kind : StartKind
  warnings : Nat
  gate : Option (Nat × Nat × Bool)
  count : Option Int
  deriving DecidableEq, Repr

/-- R177: the stored configuration fields. -/
structure Conf where
  encoder : EncMode
  leader : Nat
  tail : Nat
  slipTol : Nat
  gateTol : Nat
  slowDist : Nat
  settle : Nat
  stall : Nat
  samples : Nat
  openTo : Nat
  closeTo : Nat
  warmup : Nat
  baud : Nat
  deriving DecidableEq, Repr

/-- Chapter 10.1: the retained store. `marker` is the exposing marker with its copy of the context (R184). -/
structure Store where
  valid : Bool
  conf : Conf
  rolls : List Roll
  rollCounter : Nat
  frames : List Frame
  lastStop : Int
  zone0 : Option Zone
  zones : List Zone
  ramp : List Nat
  slots : Vector (Option OffsetSlot) 4
  gains : Vector Nat 4
  windows : Vector Window 3
  films : Vector (Option FilmRecord) 8
  plans : Vector (Option (List Int)) 7
  copyTrim : Int
  stageTrim : Int
  marker : Option Context
  book : Book
  glyphs : GlyphTable
  emblem : EmblemRaster
  density : Nat
  rates : Vector RateClass 8
  tiers : List Tier
  accounts : List Account
  journal : List Entry
  seq : Nat
  startRecord : StartRecord
  deriving DecidableEq, Repr

/-- Whether the part runs: it runs, it has taken the power-fail warning and stopped (R180), or the supply is off. -/
inductive Supply where
  | running | warned | off
  deriving DecidableEq, Repr

/-- The levels of the stand's input lines that the part reads afresh or compares with: the two encoder lines (true is high),
the film-end switch (true is open), the shutter contact (true is open) and the paper sensor (true is out). `falls` counts the
falls of PFW that a running part took: it is the model's own, and picks the free value of each (log entry 52). -/
structure InputLines where
  enca : Bool
  encb : Bool
  fendOpen : Bool
  scontOpen : Bool
  paperOut : Bool
  falls : Nat
  deriving DecidableEq, Repr

/-- The whole state of the part, with the queue of the commands that are waiting. -/
structure State where
  supply : Supply
  /-- RESET is held low after a reset was taken (R185) -/
  resetLow : Bool
  /-- the WIPE reply has been sent and the cold start is due (R182) -/
  wipeDue : Bool
  lines : InputLines
  store : Store
  transport : Transport
  meter : Meter
  /-- the context queue, head first (R77) -/
  contexts : List Context
  shutter : Shutter
  cycle : Cycle
  composer : Composer
  printer : Printer
  /-- the Charge Unit's settlement waiting list, head first (R162) -/
  waiting : List Waiting
  link : Link
  outbox : Outbox
  pending : List Instr
  deriving DecidableEq, Repr

/-! ## The cold-start values -/

/-- R177: the defaults. -/
def Conf.default : Conf where
  encoder := .quad
  leader := 8
  tail := 5
  slipTol := 6
  gateTol := 12
  slowDist := 48
  settle := 40
  stall := 96
  samples := 16
  openTo := 60
  closeTo := 60
  warmup := 800
  baud := 19200

/-- Chapter 10.1: the retained store as a cold start of the given kind writes it. -/
def Store.cold (kind : StartKind) : Store where
  valid := true
  conf := .default
  rolls := []
  rollCounter := 0
  frames := []
  lastStop := 0
  zone0 := none
  zones := []
  ramp := Config.defaultRamp
  slots := Vector.replicate 4 none
  gains := Vector.replicate 4 16384
  windows := Vector.replicate 3 { mask := 0, low := 0, high := 65535 }
  films := Vector.replicate 8 none
  plans := Vector.replicate 7 none
  copyTrim := 0
  stageTrim := 0
  marker := none
  book := { posted := [], building := [] }
  glyphs := Vector.replicate 95 (Vector.replicate 12 0)
  emblem := Vector.replicate 56 0
  density := 4
  rates := Vector.replicate 8 { frame := 0, reject := 0, spoil := 0, label := 0, minimum := 0, rush := 0 }
  tiers := []
  accounts := []
  journal := []
  seq := 1
  startRecord := { kind := kind, warnings := 0, gate := none, count := none }

/-- R48: the transport after a cold start, whose ramp entry 0 is `interval` and whose film-end switch reads `fendOpen`. R26 gives
the reference count of the index check no value there: it is 0 (log entry 74). -/
def Transport.start (count : Int) (interval : Nat) (fendOpen : Bool) : Transport where
  count := count
  held := false
  index := { state := .starting, reference := 0 }
  slow := none
  stop := none
  limit := none
  marks := []
  phase := 0
  staged := 1
  ired := true
  active := interval
  buffered := interval
  rampPos := 0
  rampDir := .accel
  stagedRamp := none
  advance := none
  filmEndOpen := fendOpen

/-- R65: the Meter Unit after a cold or a warm start. -/
def Meter.start : Meter where
  turn := 0
  latest := Vector.replicate 4 none
  live := false
  trips := Vector.replicate 3 none
  calibration := none
  metering := none
  records := Vector.replicate 4 none

/-- R83: the Shutter Timer after any start, the contact read afresh. -/
def Shutter.start (contactOpen : Bool) : Shutter where
  phase := .idle
  held := none
  ticks := 0
  measured := none
  contactOpen := contactOpen
  coil := false
  timer := none

/-- R117: the Stand Cycle Controller after any start. -/
def Cycle.start : Cycle where
  state := .stopped
  pause := false
  copyLamp := { on := false, warm := false }
  stageLamp := { on := false, warm := false }
  warmTimer := none

/-- Chapter 6.8: the Label Composer after a cold or a warm start. -/
def Composer.start : Composer where
  x0 := 0
  x1 := 63
  y0 := 0
  y1 := 55
  stream := none
  raster := Vector.replicate 56 0

/-- R149: the Label Print Channel after any start, the paper read afresh. -/
def Printer.start (paperOut : Bool) : Printer where
  state := .idle
  hand := none
  rows := 0
  strobe := none
  paperOut := paperOut
  paperWait := false
  queue := []
  transferring := false
  strobing := false
  stepping := false
  shift := 0
  latch := 0

/-- R178: the receiving side and the reply queue after a start, at the retained line rate. -/
def Link.start (rate : Nat) : Link where
  slots := []
  lost := none
  replies := []
  overOwed := 0
  discard := false
  rate := rate

/-- R178: the sending side after a start. -/
def Outbox.start : Outbox where
  tx := .idle
  notices := []

/-- The levels of the input lines of a stand at rest: the encoder low, the film-end switch closed, the shutter closed and
paper present. DESIGN CHOICE (log entry 1, unsafe): the manual gives no level of an input line. The counter of the falls of PFW
begins at 0 (DESIGN CHOICE, log entry 52). -/
def InputLines.rest : InputLines where
  enca := false
  encb := false
  fendOpen := false
  scontOpen := false
  paperOut := false
  falls := 0

/-- The part right after a cold start of the given kind (R181, R182), with the input lines at the given levels and the given
commands waiting. -/
def State.cold (kind : StartKind) (lines : InputLines) (pending : List Instr) : State where
  supply := .running
  resetLow := false
  wipeDue := false
  lines := lines
  store := Store.cold kind
  transport := Transport.start 0 5000 lines.fendOpen
  meter := Meter.start
  contexts := []
  shutter := Shutter.start lines.scontOpen
  cycle := Cycle.start
  composer := Composer.start
  printer := Printer.start lines.paperOut
  waiting := []
  link := Link.start 19200
  outbox := Outbox.start
  pending := pending

/-- The part right after a cold start, the stand at rest, no command waiting. The manual gives three kinds of start; the
cold start is the one whose every value it states (log entry 1). -/
def State.reset : State := State.cold .cold InputLines.rest []

end Sys2Proof.Machine
end

