-- ==== Sys2Proof/Machine/Ops.lean ====
section
/-! DEFINITION. The shared operations over the part's records: the transmitter's choice and the raising of notices (R174,
R175), looking up and rewriting rolls, frames, orders, items and accounts, the step statuses, the lamps, and the running
condition that every event needs. -/

namespace Sys2Proof.Machine

/-- The answer of a command: every command that the part can be given ends in a next state (log entry 2). -/
abbrev Out := Host.Outcome State Fault Refusal

/-! ## Whether the part takes anything -/

/-- R180, R185: the part takes characters, lines, timer expiries and stand events while it runs and RESET is not low. -/
def State.live (s : State) : Bool := s.supply == .running && !s.resetLow

/-- An event that is taken only while the part runs; at any other time it changes nothing (R180, R185). -/
def whenLive (f : State → State) (s : State) : Out := .next (if s.live then f s else s)

/-- A change of an input line: the level changes whether the part runs or not, and the part takes it as an event while it
runs. -/
def whenLiveLine (level : InputLines → InputLines) (f : State → State) (s : State) : Out :=
  .next (if s.live then f { s with lines := level s.lines } else { s with lines := level s.lines })

/-! ## Clamping (00_scope.md, Conventions, Clamped and refused fields) -/

/-- The value brought into lo..hi. -/
def clampInt (lo hi v : Int) : Int := if v < lo then lo else if hi < v then hi else v

/-- The value brought into 0-based lo..hi, as a natural number. -/
def clampNat (lo hi : Nat) (v : Int) : Nat := (clampInt lo hi v).toNat

/-- Whether the value lies in lo..hi. -/
def inRange (lo hi v : Int) : Bool := lo ≤ v && v ≤ hi

/-- R173: the field numbers to report as clamped, from each field's number and whether its value was in range. -/
def clampReport (l : List (Nat × Bool)) : List Nat := (l.filter fun p => !p.2).map (·.1)

/-- An acceptance with nothing following its last character. -/
def ok (fields : List RField) (clamped : List Nat := []) : Answer := .accept fields clamped .nothing

/-- A refusal that names no field. -/
def refuse (c : Code) : Answer := .refuse c none

/-- A refusal at a field. -/
def refuseAt (c : Code) (field : Nat) : Answer := .refuse c (some field)

/-- A number field of a reply. -/
def numF (n : Nat) : RField := .num n

/-- An optional field of a reply: an absent field is empty (R173). -/
def optF {α : Type} (f : α → RField) : Option α → RField
  | some a => f a
  | none => .empty

/-! ## Notices and the transmitter (R174, R175) -/

/-- R174: the kind of a notice. -/
def Notice.kind : Notice → NoticeKind
  | .place _ _ => .place
  | .halt _ _ => .halt
  | .done _ _ _ => .done
  | .rollState _ _ => .roll
  | .rollMark _ _ => .roll
  | .zone _ _ => .zone
  | .label _ _ => .label
  | .settle _ => .settle
  | .meter _ _ _ => .meter

/-- R174: the kinds in the table's order. -/
def NoticeKind.all : List NoticeKind := [.place, .halt, .done, .roll, .zone, .label, .settle, .meter]

/-- R174: the notices without those of one kind. -/
def withoutKind (k : NoticeKind) (l : List Notice) : List Notice := l.filter fun n => n.kind != k

/-- R174: a raised notice becomes pending, and takes the place of a pending notice of its kind. -/
def Outbox.add (n : Notice) (o : Outbox) : Outbox := { o with notices := withoutKind n.kind o.notices ++ [n] }

/-- R175: the first pending notice in the order of the kinds. -/
def Outbox.first (o : Outbox) : Option Notice := NoticeKind.all.findSome? fun k => o.notices.find? fun n => n.kind == k

/-- R175: with no reply to send, the first pending notice is sent (and is no longer pending), or the transmitter is idle. -/
def Outbox.sendNotice (o : Outbox) : Outbox :=
  match o.first with
  | some n => { tx := .notice n, notices := withoutKind n.kind o.notices }
  | none => { o with tx := .idle }

/-- R175: the transmitter chooses a line: the head reply, else the first pending notice, else none. -/
def State.chooseLine (s : State) : State :=
  if s.link.replies.isEmpty then { s with outbox := s.outbox.sendNotice }
  else { s with outbox := { s.outbox with tx := .reply } }

/-- R175: an idle transmitter chooses a line as soon as one becomes available. -/
def State.wake (s : State) : State := if s.outbox.tx == .idle then s.chooseLine else s

/-- R174: a block raises a notice. -/
def State.raise (n : Notice) (s : State) : State := { s with outbox := s.outbox.add n }.wake

/-! ## Rolls and frames (chapter 1) -/

/-- R3: a roll in THREADING, LOADED or ENDED is open. -/
def Roll.isOpen (r : Roll) : Bool := r.state == .threading || r.state == .loaded || r.state == .ended

/-- R3: the open roll. -/
def State.openRoll (s : State) : Option Roll := s.store.rolls.find? Roll.isOpen

/-- The roll record of a number. -/
def State.rollNumbered (n : Nat) (s : State) : Option Roll := s.store.rolls.find? fun r => r.number == n

/-- The roll directory with the record of the same number replaced. -/
def replaceRoll (r : Roll) (l : List Roll) : List Roll := l.map fun q => if q.number == r.number then r else q

/-- A roll record is rewritten. -/
def State.setRoll (r : Roll) (s : State) : State :=
  { s with store := { s.store with rolls := replaceRoll r s.store.rolls } }

/-- R3: a roll changes state, and a ROLL notice is raised. -/
def State.changeRoll (r : Roll) (st : RollState) (s : State) : State :=
  (s.setRoll { r with state := st }).raise (.rollState r.number st)

/-- The frame record of a reference. -/
def State.frameAt (roll number : Nat) (s : State) : Option Frame :=
  s.store.frames.find? fun f => f.roll == roll && f.number == number

/-- The frame records of a roll, in frame order. -/
def State.rollFrames (roll : Nat) (s : State) : List Frame := s.store.frames.filter fun f => f.roll == roll

/-- R10: the last frame of a roll. -/
def State.lastFrame (r : Roll) (s : State) : Option Frame := s.frameAt r.number r.frameCount

/-- R10: the gate frame, the open roll's last frame while it is POSITIONED. -/
def State.gateFrame (s : State) : Option Frame :=
  s.openRoll.bind fun r => (s.lastFrame r).filter fun f => f.state == .positioned

/-- The frame table with the record of the same reference replaced. -/
def replaceFrame (f : Frame) (l : List Frame) : List Frame :=
  l.map fun g => if g.roll == f.roll && g.number == f.number then f else g

/-- A frame record is rewritten (R179: one write). -/
def State.setFrame (f : Frame) (s : State) : State :=
  { s with store := { s.store with frames := replaceFrame f s.store.frames } }

/-- R8: the free frame records. -/
def State.freeRecords (s : State) : Nat := Config.maxFrames - s.store.frames.length

/-- R14: a frame that does not stand in the way of settling its roll. -/
def Frame.settled (f : Frame) : Bool :=
  !(f.state == .exposed && f.selection == some .undecided) &&
  !(f.selection == some .kept && f.label != .printed)

/-- R14: a roll is settleable. -/
def State.rollSettleable (roll : Nat) (s : State) : Bool := (s.rollFrames roll).all Frame.settled

/-- R14: a CLOSED roll that is settleable becomes SETTLED. -/
def State.checkRoll (roll : Nat) (s : State) : State :=
  match s.rollNumbered roll with
  | some r => if r.state == .closed && s.rollSettleable roll then s.changeRoll r .settled else s
  | none => s

/-- R5: the film-end switch is reported open: an absent tail field of the open roll is made present. -/
def State.reportFilmEnd (s : State) : State :=
  match s.openRoll with
  | some r => if r.tail.isNone then s.setRoll { r with tail := some s.store.conf.tail } else s
  | none => s

/-! ## Orders and items (chapter 5) -/

/-- R93: the orders held: the posted orders in posting order, then the BUILDING orders. -/
def Book.orders (b : Book) : List Order := b.posted ++ b.building

/-- The order of a number. -/
def Book.find (n : Nat) (b : Book) : Option Order := b.orders.find? fun o => o.number == n

/-- Every order of a number rewritten. -/
def Book.update (n : Nat) (f : Order → Order) (b : Book) : Book where
  posted := b.posted.map fun o => if o.number == n then f o else o
  building := b.building.map fun o => if o.number == n then f o else o

/-- R96: an order is removed, and the posting list closes up. -/
def Book.remove (n : Nat) (b : Book) : Book where
  posted := b.posted.filter fun o => o.number != n
  building := b.building.filter fun o => o.number != n

/-- R92: the item records taken from the pool. -/
def Book.itemCount (b : Book) : Nat := (b.orders.map fun o => o.items.length).sum

/-- The item of a number in an order. -/
def Order.item (n : Nat) (o : Order) : Option Item := o.items.find? fun i => i.number == n

/-- An order's item rewritten. -/
def Order.updateItem (n : Nat) (f : Item → Item) (o : Order) : Order :=
  { o with items := o.items.map fun i => if i.number == n then f i else i }

/-- The order book is rewritten. -/
def State.setBook (b : Book) (s : State) : State := { s with store := { s.store with book := b } }

/-- The order of a number. -/
def State.order (n : Nat) (s : State) : Option Order := s.store.book.find n

/-- The item of an order and item number. -/
def State.item (o i : Nat) (s : State) : Option Item := (s.order o).bind (Order.item i)

/-- An order is rewritten. -/
def State.updateOrder (n : Nat) (f : Order → Order) (s : State) : State := s.setBook (s.store.book.update n f)

/-- An item is rewritten. -/
def State.updateItem (o i : Nat) (f : Item → Item) (s : State) : State := s.updateOrder o (Order.updateItem i f)

/-- The item of an order that is ACTIVE. -/
def Order.activeItem (o : Order) : Option Item := o.items.find? fun i => i.state == .active

/-- R97: the ACTIVE item, with its order. -/
def Book.active (b : Book) : Option (Order × Item) := b.posted.findSome? fun o => o.activeItem.map fun i => (o, i)

/-- R97: the ACTIVE item, with its order. -/
def State.active (s : State) : Option (Order × Item) := s.store.book.active

/-- R102: the lamp that lights an item's original (R92). -/
def ItemMode.lamp : ItemMode → Light
  | .copy _ => .copy
  | .stage _ => .stage
  | .manual _ lamp => lamp

/-- The source that an item's mode names. -/
def ItemMode.source : ItemMode → Source
  | .copy _ => .copy
  | .stage _ => .stage
  | .manual _ _ => .manual

/-- R77: the status of one step is written into its item, when the step is of the item's current set. -/
def Item.setStep (set step : Nat) (st : StepStatus) (it : Item) : Item :=
  if it.currentSet == some set then { it with steps := it.steps.map fun l => l.set (step - 1) st } else it

/-- R77: the status of a context's step is written. -/
def State.setStep (r : ItemRef) (st : StepStatus) (s : State) : State :=
  s.updateItem r.order r.item (Item.setStep r.set r.step st)

/-- R79: the context queue is discarded, and each context's step returns to PENDING. -/
def State.discardQueue (s : State) : State :=
  s.contexts.foldl (fun t c => t.setStep c.ref .pending) { s with contexts := [] }

/-- R96: the state of an order after one of its items has ended. -/
def Order.afterItemEnd (o : Order) : Order :=
  if o.items.any fun i => i.state == .active then o
  else if o.items.any fun i => i.state == .pending then
    (if o.state == .active then { o with state := .waiting } else o)
  else if o.state == .building then o
  else { o with state := .done }

/-! ## Lamps (R102) -/

/-- A lamp's state. -/
def Cycle.lamp (l : Light) (c : Cycle) : LampState :=
  match l with
  | .copy => c.copyLamp
  | .stage => c.stageLamp

/-- A lamp's state is rewritten. -/
def Cycle.setLamp (l : Light) (x : LampState) (c : Cycle) : Cycle :=
  match l with
  | .copy => { c with copyLamp := x }
  | .stage => { c with stageLamp := x }

/-- The other lamp. -/
def otherLight : Light → Light
  | .copy => .stage
  | .stage => .copy

/-- R102: a lamp switched off loses its warm flag. -/
def LampState.off : LampState := { on := false, warm := false }

/-- A lamp switched on; a lamp that is already on is left as it is (R102). -/
def LampState.switchOn (x : LampState) : LampState := if x.on then x else { on := true, warm := false }

/-- R102: a lamp is switched off. -/
def Cycle.lampOff (l : Light) (c : Cycle) : Cycle := c.setLamp l .off

/-- R102: both lamps are switched off. -/
def Cycle.lampsOff (c : Cycle) : Cycle := { c with copyLamp := .off, stageLamp := .off }

/-- The stand cycle controller is rewritten. -/
def State.withCycle (f : Cycle → Cycle) (s : State) : State := { s with cycle := f s.cycle }

/-! ## Accounts (chapter 8) -/

/-- The account of a number. -/
def State.account (n : Nat) (s : State) : Option Account := s.store.accounts.find? fun a => a.number == n

/-- An account is rewritten. -/
def State.updateAccount (n : Nat) (f : Account → Account) (s : State) : State :=
  { s with store := { s.store with accounts := s.store.accounts.map fun a => if a.number == n then f a else a } }

/-- A rate class by its number, 1..8. -/
def State.rateClass (n : Nat) (s : State) : RateClass :=
  (s.store.rates[n - 1]?).getD { frame := 0, reject := 0, spoil := 0, label := 0, minimum := 0, rush := 0 }

/-- R68: a bracket plan by its id: plan 0 is the single offset 0. -/
def State.plan (id : Nat) (s : State) : Option (List Int) :=
  if id == 0 then some [0] else (s.store.plans[id - 1]?).join

/-- A film record by its id, 1..8. -/
def State.film (id : Nat) (s : State) : Option FilmRecord := if id == 0 then none else (s.store.films[id - 1]?).join

/-- R162: the journal has room for an entry. -/
def State.journalRoom (s : State) : Bool := s.store.journal.length < Config.maxJournal

/-! ## Encoder modes (R24, R47) -/

/-- R24: counts per frame of an encoder mode. -/
def cpfOf : EncMode → Nat
  | .quad => 192
  | .pulsedir => 48
  | .count => 48

/-- R7: counts per frame of the encoder mode in force. -/
def State.cpf (s : State) : Nat := cpfOf s.store.conf.encoder

/-- R1, R2: the roll number after a number, 65535 being followed by 1; the journal's sequence counter runs alike (R161). -/
def nextNumber (n : Nat) : Nat := if 65535 ≤ n then 1 else n + 1

end Sys2Proof.Machine
end

