-- ==== Sys2Proof/Machine/Flags.lean ====
section
/-! DEFINITION. The exposure computation (chapter 4.3) with every flag it raises (R70 to R75), and the correction of a
reading (R51). -/

namespace Sys2Proof.Machine

/-- No flag. -/
def Flags.clear : Flags :=
  { meterHigh := false, meterLow := false, manual := false, recip := false, clampLow := false, clampHigh := false }

/-! ## Correction (R50, R51) -/

/-- R50: the lowest-numbered slot naming a channel, with its number 1..4. -/
def applyingSlot (slots : Vector (Option OffsetSlot) 4) (ch : Fin 4) : Option (Nat × Nat) :=
  (slots.toList.zipIdx).findSome? fun p =>
    match p.1 with
    | some x => if x.channel == ch then some (p.2 + 1, x.offset) else none
    | none => none

/-- R50: the offset that applies to a channel. -/
def State.offsetOf (ch : Fin 4) (s : State) : Nat := ((applyingSlot s.store.slots ch).map (·.2)).getD 0

/-- R51: a reading corrected with an offset and a gain. -/
def correctReading (r o g : Nat) : Nat := min 65535 ((r - o) * g / 16384)

/-- R51: a reading of a channel corrected with the offset and gain in force. -/
def State.corrected (ch : Fin 4) (r : Nat) (s : State) : Nat := correctReading r (s.offsetOf ch) s.store.gains[ch]

/-! ## The seven stages -/

/-- R71: the brightness logarithm of a light value of 1 or more. -/
def brightness (l : Nat) : Nat :=
  let k := Nat.log2 l
  let m := l * 16 / 2 ^ k - 16
  12 * k + (Config.frac[m]?).getD 0

/-- R70: L is taken as 1 when it is 0. -/
def lightTaken (l : Nat) : Nat := if l == 0 then 1 else l

/-- R72: the base log of a COPY or STAGE item. -/
def baseLog (k : Nat) (l : Nat) (filter trim : Int) : Int := (k : Int) - brightness (lightTaken l) + filter + trim

/-- R73: the reciprocity extra at a step's log T1. -/
def recipExtra (recip : List RecipStep) (t1 : Int) : Nat :=
  (((recip.filter fun r => (r.threshold : Int) ≤ t1).getLast?).map (·.extra)).getD 0

/-- R74: the planned ticks of a log T. -/
def plannedTicks (t : Nat) : Nat := (Config.antilog[t % 12]?).getD 0 * 2 ^ (t / 12) / 32

/-- R73 to R75: what the stages 4 to 7 give for one step: the log T, the planned ticks, and the fill's flags with the step's
own. -/
structure StepResult where
  logT : Nat
  planned : Nat
  flags : Flags
  deriving DecidableEq, Repr

/-- R72 (stage 4), R73, R74: one step of a set, from the base log, the step's offset and the film's reciprocity list. -/
def computeStep (t0 : Int) (recip : List RecipStep) (base : Flags) (offset : Int) : StepResult :=
  let t1 := t0 + offset
  let extra := recipExtra recip t1
  let t2 := t1 + extra
  let t := clampNat 0 191 t2
  { logT := t
    planned := plannedTicks t
    flags := { base with recip := extra != 0, clampLow := t2 < 0, clampHigh := t2 > 191 } }

/-- R70: the flags of a light value; `high` is the mark of an averaged reading at 65,000 or above. -/
def lightFlags (l : Nat) (high : Bool) : Flags := { Flags.clear with meterHigh := high, meterLow := l < 16 }

/-- R70: the mark of an averaged reading at 65,000 or above. -/
def readingHigh (averaged : Nat) : Bool := 65000 ≤ averaged

/-- R72: the flags of a MANUAL item. -/
def manualFlags : Flags := { Flags.clear with manual := true }

/-! ## The fill (R78) -/

/-- R78: the light source of a fill. -/
inductive FillLight where
  | metering (averaged corrected : Nat)
  | stored
  | manual
  deriving DecidableEq, Repr

/-- R78: what stages 1 to 3 give: the base log, the fill's flags, and the L that the contexts record. -/
structure FillBase where
  t0 : Int
  flags : Flags
  light : Option Nat
  deriving DecidableEq, Repr

/-- R70 to R72: stages 1 to 3 for a light value and its METER_HIGH mark, for an item's mode. -/
def State.meteredBase (mode : ItemMode) (k l : Nat) (high : Bool) (s : State) : Option FillBase :=
  match mode with
  | .copy filter => some { t0 := baseLog k l filter s.store.copyTrim, flags := lightFlags l high, light := some l }
  | .stage filter => some { t0 := baseLog k l filter s.store.stageTrim, flags := lightFlags l high, light := some l }
  | .manual _ _ => none

/-- R78: stages 1 to 3 for a fill's light source. -/
def State.fillBase (it : Item) (k : Nat) (src : FillLight) (s : State) : Option FillBase :=
  match src with
  | .metering averaged corrected => s.meteredBase it.mode k corrected (readingHigh averaged)
  | .stored => it.stored.bind fun st => s.meteredBase it.mode k st.light st.high
  | .manual => match it.mode with
    | .manual log _ => some { t0 := log, flags := manualFlags, light := none }
    | .copy _ => none
    | .stage _ => none

/-- R78: the contexts of a fill, one for each PENDING step of the current set, in step order. -/
def fillContexts (o : Nat) (it : Item) (film : Nat) (rec : FilmRecord) (b : FillBase) : List Context :=
  let steps := it.steps.getD []
  ((it.captured.getD []).zipIdx).filterMap fun p =>
    if steps[p.2]? == some .pending then
      let r := computeStep b.t0 rec.recip b.flags p.1
      some
        { ref := { order := o, item := it.number, set := it.currentSet.getD 0, step := p.2 + 1, offset := p.1 }
          logT := r.logT
          planned := r.planned
          flags := r.flags
          light := b.light
          source := it.mode.source
          film := film }
    else none

/-- R78: a metering fill writes the item's stored L and its METER_HIGH mark. -/
def Item.storeLight (src : FillLight) (it : Item) : Item :=
  match src with
  | .metering averaged corrected => { it with stored := some { light := corrected, high := readingHigh averaged } }
  | .stored => it
  | .manual => it

/-- R77, R78: every PENDING step becomes QUEUED. -/
def Item.queueSteps (it : Item) : Item :=
  { it with steps := it.steps.map fun l => l.map fun st => if st == .pending then .queued else st }

/-- R78: a fill for the ACTIVE item. It is refused, with nothing changed, when no roll is open or the queue is not empty. -/
def State.fill (src : FillLight) (s : State) : State :=
  if s.contexts.isEmpty then
    match s.openRoll, s.active with
    | some r, some (o, it) =>
      match s.film r.film with
      | some rec =>
        match s.fillBase it rec.k src with
        | some b =>
          { s.updateItem o.number it.number fun i => (i.storeLight src).queueSteps with
            contexts := fillContexts o.number it r.film rec b }
        | none => s
      | none => s
    | _, _ => s
  else s

end Sys2Proof.Machine
end

