-- ==== Sys2Proof/Machine/Settlement.lean ====
section
/-! DEFINITION. The Charge Unit's shared operations: the estimate and the admission (R155, R156), whether an item is
settleable (R157), pricing (R158), settlement (R159), an order's final check (R160), the waiting list (R162), and the release
of an account (R98). -/

namespace Sys2Proof.Machine

/-! ## Admission -/

/-- R155: x, the amount reserved before any surcharge, for so many copies of a plan of so many steps. -/
def estimateBase (c : RateClass) (copies steps : Nat) : Nat :=
  copies * (c.frame + (steps - 1) * c.reject + c.label)

/-- R155, R158: a permille share of an amount, rounded half-up to the whole mill. -/
def permille (amount rate : Nat) : Nat := (amount * rate + 500) / 1000

/-- R155: the estimate of an item. -/
def estimateOf (c : RateClass) (cls : OrderClass) (copies steps : Nat) : Nat :=
  let x := estimateBase c copies steps
  match cls with
  | .normal => x
  | .rush => x + permille x c.rush

/-- R156: the Charge Unit's judgement of an item: a hold cause when it refuses. -/
def judgeAdmission (a : Account) (estimate : Nat) : Option HoldCause :=
  if a.state == .closed then some .closed
  else match a.allowance with
    | some limit => if a.charged + a.committed + estimate > limit then some .allowance else none
    | none => none

/-- R150: the rates that an item captures at its admission. -/
def RateClass.captured (c : RateClass) : Rates :=
  { frame := c.frame, reject := c.reject, spoil := c.spoil, label := c.label, rush := c.rush }

/-- R100: what an item is given at its admission. -/
def Item.admitItem (c : RateClass) (estimate : Nat) (plan : List Int) (it : Item) : Item :=
  { it with
    state := .active
    captured := some plan
    rates := some c.captured
    estimate := estimate
    currentSet := some 1
    steps := some (plan.map fun _ => .pending) }

/-- R100, R156: the admission of an item: its estimate is committed, and the item and its order capture what they keep. -/
def State.admitItem (o : Order) (it : Item) (c : RateClass) (estimate : Nat) (plan : List Int) (s : State) : State :=
  (s.updateAccount o.account fun a => { a with committed := a.committed + estimate }).updateOrder o.number fun q =>
    { q.updateItem it.number (Item.admitItem c estimate plan) with
      state := .active
      minimum := some (q.minimum.getD c.minimum) }

/-! ## Settlement -/

/-- R157: the frames of an item: those whose item reference names its order and item number. -/
def Frame.ofItem (o i : Nat) (f : Frame) : Bool :=
  match f.ref with
  | some r => r.order == o && r.item == i
  | none => false

/-- R157: a frame that does not keep its item from settling: an EXPOSED frame is decided, a KEPT frame is PRINTED. -/
def Frame.chargeable (f : Frame) : Bool :=
  !(f.state == .exposed && (f.selection != some .kept && f.selection != some .rejected)) &&
  !(f.selection == some .kept && f.label != .printed)

/-- R157: the Shutter Timer holds a context of the item. -/
def State.shutterHolds (o i : Nat) (s : State) : Bool :=
  match s.shutter.held with
  | some c => c.ref.order == o && c.ref.item == i
  | none => false

/-- R157: an item is settleable. -/
def State.itemSettleable (o : Nat) (it : Item) (s : State) : Bool :=
  (it.state == .done || it.state == .cancelled) &&
  (s.store.frames.all fun f => !f.ofItem o it.number || f.chargeable) &&
  !s.shutterHolds o it.number

/-- R151: the discount of the tier table for an account's period frames. -/
def tierDiscount (tiers : List Tier) (period : Nat) : Nat :=
  match tiers.find? fun t => t.low ≤ period && period ≤ t.high with
  | some t => t.discount
  | none => 0

/-- R158: the amount of a settlement, worked without loss. -/
def priceItem (cls : OrderClass) (it : Item) (d : Nat) : Nat :=
  let r := it.rates.getD { frame := 0, reject := 0, spoil := 0, label := 0, rush := 0 }
  let base := it.kept * r.frame + it.rejected * r.reject + it.spoiled * r.spoil + it.labels * r.label
  let discounted := base - permille base d
  match cls with
  | .normal => discounted
  | .rush => discounted + permille discounted r.rush

/-- R159: an item whose kept, rejected and spoiled counters are all 0 needs no entry. -/
def Item.needsEntry (it : Item) : Bool := !(it.kept == 0 && it.rejected == 0 && it.spoiled == 0)

/-- R161: an entry is appended with the next sequence number. -/
def State.appendEntry (account order : Nat) (detail : Option ItemCharge) (amount : Nat) (s : State) : State :=
  { s with
    store :=
      { s.store with
        journal := s.store.journal ++ [{ seq := s.store.seq, account, order, detail, amount }]
        seq := nextNumber s.store.seq } }

/-- R152: an amount is added to an account's charged total, which is held at its top with the saturated flag set. `cut` says
that the amount itself was cut to the top (R158). -/
def Account.charge (amount : Nat) (cut : Bool) (a : Account) : Account :=
  if a.charged + amount > Config.maxMoney then { a with charged := Config.maxMoney, saturated := true }
  else { a with charged := a.charged + amount, saturated := a.saturated || cut }

/-- R174: the SETTLE notice, whose reference is the number of entries in the journal. -/
def State.raiseSettle (s : State) : State := s.raise (.settle s.store.journal.length)

/-- R159: the charged mark of every frame of an item is set. -/
def State.markCharged (o i : Nat) (s : State) : State :=
  { s with
    store :=
      { s.store with frames := s.store.frames.map fun f => if f.ofItem o i then { f with charged := true } else f } }

/-- R160: the amount of a MINIMUM entry that is due, if one is. -/
def Order.minimumDue (o : Order) : Option Nat :=
  match o.minimum with
  | some m => if o.running < m then some (m - o.running) else none
  | none => none

/-- R96: an order reported complete is removed. -/
def State.removeOrder (n : Nat) (s : State) : State := s.setBook (s.store.book.remove n)

/-- R162: a place joins the tail of the waiting list. -/
def State.queueWait (p : Waiting) (s : State) : State := { s with waiting := s.waiting ++ [p] }

/-- R160: a MINIMUM entry is written, and its order is reported complete. -/
def State.writeMinimum (o : Order) (due : Nat) (s : State) : State :=
  (((s.appendEntry o.account o.number none due).updateAccount o.account (Account.charge due false)).raiseSettle).removeOrder
    o.number

/-- R160: the final check of an order whose items are all SETTLED. -/
def State.finalCheck (n : Nat) (s : State) : State :=
  match s.order n with
  | some o =>
    if o.items.all fun i => i.state == .settled then
      match o.minimumDue with
      | some due =>
        if s.journalRoom then s.writeMinimum o due else s.queueWait (.minimum n)
      | none => s.removeOrder n
    else s
  | none => s

/-- R159: the settlement of an item, taken whole, but for the final check of its order. -/
def State.settleRecord (o : Order) (it : Item) (s : State) : State :=
  let d := tierDiscount s.store.tiers (((s.account o.account).map (·.period)).getD 0)
  let exact := priceItem o.cls it d
  let amount := min exact Config.maxMoney
  let cut := exact > Config.maxMoney
  let detail : ItemCharge :=
    { item := it.number, kept := it.kept, rejected := it.rejected, spoiled := it.spoiled, labels := it.labels }
  let s1 := if it.needsEntry then s.appendEntry o.account o.number (some detail) amount else s
  let s2 := s1.updateAccount o.account fun a =>
    let b := a.charge amount cut
    { b with
      committed := b.committed - it.estimate
      period := min 65535 (b.period + (it.kept + it.rejected)) }
  let s3 := s2.markCharged o.number it.number
  let s4 := s3.updateOrder o.number fun q =>
    { q.updateItem it.number fun i => { i with state := .settled } with running := q.running + amount }
  if it.needsEntry then s4.raiseSettle else s4

/-- R159, R160: an item is settled, and its order's final check is made. -/
def State.settleItem (o : Order) (it : Item) (s : State) : State := (s.settleRecord o it).finalCheck o.number

/-- R157: whether an item stands on the waiting list. -/
def State.itemWaits (o i : Nat) (s : State) : Bool := s.waiting.contains (.item o i)

/-- R157: the Charge Unit looks at an item, and settles it, places it on the waiting list, or leaves it. -/
def State.lookItem (o i : Nat) (s : State) : State :=
  match s.order o with
  | none => s
  | some q =>
    match q.item i with
    | none => s
    | some it =>
      if s.itemSettleable o it && !s.itemWaits o i then
        if !it.needsEntry || s.journalRoom then s.settleItem q it
        else s.queueWait (.item o i)
      else s

/-- R162: one place of the waiting list, taken from its head. A place whose order or item is not held does nothing (log entry 67). -/
def State.workPlace (w : Waiting) (s : State) : State :=
  match w with
  | .item o i =>
    match s.order o with
    | none => s
    | some q => match q.item i with
      | none => s
      | some it => s.settleItem q it
  | .minimum n =>
    match s.order n with
    | none => s
    | some o => match o.minimumDue with
      | some due => s.writeMinimum o due
      | none => s.removeOrder n

/-- R162: the waiting list is worked from the head while the journal has room. `fuel` bounds the places taken. -/
def workWaiting : Nat → State → State
  | 0, s => s
  | fuel + 1, s =>
    match s.waiting with
    | [] => s
    | w :: rest =>
      if s.journalRoom then workWaiting fuel ({ s with waiting := rest }.workPlace w) else s

/-- R162: the waiting list is worked. Each place leaves at most one MINIMUM place behind it, so twice the list's length is
enough. -/
def State.workList (s : State) : State := workWaiting (2 * s.waiting.length) s

/-- R162: the waiting list is rebuilt at a warm start, from an empty list: every DONE and CANCELLED item is looked at, in posting
order and then in item order, and then every DONE order whose items are all SETTLED. -/
def State.rebuildWaiting (s : State) : State :=
  let items := s.store.book.posted.flatMap fun o =>
    (o.items.filter fun i => i.state == .done || i.state == .cancelled).map fun i => (o.number, i.number)
  let orders := (s.store.book.posted.filter fun o =>
    o.state == .done && o.items.all fun i => i.state == .settled).map (·.number)
  let s1 := items.foldl (fun t p => t.lookItem p.1 p.2) { s with waiting := [] }
  orders.foldl (fun t n => t.finalCheck n) s1

/-! ## The release of an account -/

/-- R98: an order of the account that is held for ALLOWANCE or CLOSED. -/
def Order.heldForAccount (account : Nat) (o : Order) : Bool :=
  o.account == account && (o.state == .held .allowance || o.state == .held .closed)

/-- R98: whether the release of an account would return an order to WAITING. -/
def State.releasesAny (account : Nat) (s : State) : Bool := s.store.book.posted.any (Order.heldForAccount account)

/-- R98: at the release of an account, its orders held for ALLOWANCE or CLOSED return to WAITING. -/
def State.releaseOrders (account : Nat) (s : State) : State :=
  s.setBook { s.store.book with
    posted := s.store.book.posted.map fun o => if o.heldForAccount account then { o with state := .waiting } else o }

end Sys2Proof.Machine
end

