-- ==== Sys2Proof/Machine/CycleOps.lean ====
section
/-! DEFINITION. The shared operations of the stand cycle (chapter 5): entering each cycle state, ending an item (R97),
choosing the next item (R100), halting (R114), asking for a metering (R54) and for an exposure (R84), the fault outcomes of an
exposure (R87), and going forward from a POSITIONED gate frame (R107). Nothing here moves film. -/

namespace Sys2Proof.Machine

/-! ## Frame outcomes (R11, R12) -/

/-- R12: the counter that a decision raises. -/
def Item.countDecision (kept : Bool) (it : Item) : Item :=
  if kept then { it with kept := it.kept + 1 } else { it with rejected := it.rejected + 1 }

/-- R11: the spoiled counter of an item. -/
def Item.countSpoiled (it : Item) : Item := { it with spoiled := it.spoiled + 1 }

/-- R76: the computed part that a context gives its frame. -/
def Context.computed (c : Context) : Computed :=
  { logT := c.logT, planned := c.planned, light := c.light, flags := c.flags }

/-- R11: a frame becomes SPOILED, with the item reference and the computed part of its context. -/
def Frame.spoil (cause : FrameCause) (c : Context) (measured : Option Nat) (f : Frame) : Frame :=
  { f with
    state := .spoiled
    cause := some cause
    ref := some c.ref
    computed := some c.computed
    measured := measured }

/-- R11: a POSITIONED frame becomes VOID and keeps its gate count. -/
def Frame.voided (cause : FrameCause) (f : Frame) : Frame := { f with state := .void, cause := some cause }

/-- R11, R12: a frame becomes EXPOSED; its selection is KEPT when the captured plan has a single step. -/
def Frame.expose (c : Context) (measured : Nat) (single : Bool) (f : Frame) : Frame :=
  { f with
    state := .exposed
    ref := some c.ref
    computed := some c.computed
    measured := some measured
    selection := some (if single then .kept else .undecided) }

/-- R11: the gate frame becomes SPOILED, and the Order Book counts it. -/
def State.spoilGate (cause : FrameCause) (c : Context) (measured : Option Nat) (s : State) : State :=
  match s.gateFrame with
  | some f => (s.setFrame (f.spoil cause c measured)).updateItem c.ref.order c.ref.item Item.countSpoiled
  | none => s

/-- The gate frame becomes VOID. -/
def State.voidGate (cause : FrameCause) (s : State) : State :=
  match s.gateFrame with
  | some f => s.setFrame (f.voided cause)
  | none => s

/-- The exposing marker is cleared (R87, R88). -/
def State.clearMarker (s : State) : State := { s with store := { s.store with marker := none } }

/-! ## Entering the states of the cycle -/

/-- The cycle enters a state whose entry switches both lamps off (R102); a warm-up that runs is over. -/
def State.enterDark (c : CycleState) (s : State) : State :=
  s.withCycle fun y => { y.lampsOff with state := c, warmTimer := none }

/-- The cycle enters STOPPED; a pause that was pending has come about. -/
def State.enterStopped (s : State) : State := (s.enterDark .stopped).withCycle fun y => { y with pause := false }

/-- R103: the cycle enters WAITING. -/
def State.enterWaiting (c : WaitCause) (s : State) : State := s.enterDark (.waiting c)

/-- R105: the cycle enters PLACE for an item, with its notice. -/
def State.enterPlace (o i : Nat) (s : State) : State := (s.enterDark .place).raise (.place o i)

/-- R114: the cycle enters HALTED with its cause and the halt roll; both lamps go off, a pending pause is cleared and a HALT
notice is raised. -/
def State.halt (c : HaltCause) (s : State) : State :=
  ((s.enterDark (.halted c (s.openRoll.map (·.number)))).withCycle fun y => { y with pause := false }).raise (.halt c false)

/-- R102, R106: the cycle enters WARMUP for a lamp: the lamp is on, the other is off, and the warm-up timer starts. -/
def State.enterWarmup (l : Light) (s : State) : State :=
  s.withCycle fun y =>
    { (y.lampOff (otherLight l)).setLamp l ((y.lamp l).switchOn) with
      state := .warmup
      warmTimer := some s.store.conf.warmup }

/-- R54: a metering of a channel is asked: it begins at once, or waits for a calibration in progress. Its samples count is the one
stored when it is asked, also for one that waits (R55, log entry 55). -/
def State.askMetering (ch : Fin 4) (s : State) : State :=
  match s.meter.metering with
  | some _ => s
  | none =>
    { s with
      meter :=
        { s.meter with
          metering := some
            { channel := ch, samples := s.store.conf.samples, begun := s.meter.calibration.isNone, sum := 0, taken := 0 } } }

/-- R56: a metering is withdrawn with its sum. -/
def State.withdrawMetering (s : State) : State := { s with meter := { s.meter with metering := none } }

/-- R54: the source channel of a light source. -/
def sourceChannel : Source → Fin 4
  | .copy => 0
  | .stage => 1
  | .manual => 0

/-- R108: the cycle enters METERING and asks for a metering of the item's source cell. -/
def State.enterMetering (src : Source) (s : State) : State :=
  (s.withCycle fun y => { y with state := .metering }).askMetering (sourceChannel src)

/-! ## The end of an item (R97) -/

/-- R97: the Order Book sets the item's and the order's state at an item's end. -/
def State.setItemEnd (o i : Nat) (cancelled : Bool) (s : State) : State :=
  s.updateOrder o fun q =>
    (q.updateItem i fun it => { it with state := if cancelled then .cancelled else .done }).afterItemEnd

/-- R97: a PENDING item is cancelled: its notice, its order's state, and the Charge Unit's look. -/
def State.cancelPendingItem (o i : Nat) (s : State) : State :=
  ((s.setItemEnd o i true).raise (.done o i true)).lookItem o i

/-- R97, R102: the ACTIVE item ends DONE or CANCELLED: both lamps go off, the context queue is discarded, a DONE notice is raised,
its order's state is set and the Charge Unit looks at it. -/
def State.endActive (o : Nat) (it : Item) (cancelled : Bool) (s : State) : State :=
  (((((s.withCycle Cycle.lampsOff).discardQueue).setItemEnd o it.number cancelled).raise
    (.done o it.number cancelled))).lookItem o it.number

/-- R110, R113: an ACTIVE item whose cancel pending is yes ends CANCELLED. -/
def State.endCancelPending (s : State) : State :=
  match s.active with
  | some (o, it) => if it.cancelPending then s.endActive o.number it true else s
  | none => s

/-! ## Choosing the next item (R100) -/

/-- R100: whether a roll stands ready: the open roll is LOADED with a POSITIONED gate frame. -/
def State.rollReady (s : State) : Bool :=
  match s.openRoll with
  | some r => r.state == .loaded && s.gateFrame.isSome
  | none => false

/-- R100: the first PENDING item of an order. -/
def Order.firstPending (o : Order) : Option Item := o.items.find? fun i => i.state == .pending

/-- R100, R156: an order's first PENDING item is offered for admission. The answer says whether it was admitted; a refusal
holds the order. -/
def State.offer (n : Nat) (s : State) : State × Option (Nat × Nat) :=
  match s.order n with
  | none => (s, none)
  | some o =>
    match o.firstPending, s.account o.account with
    | some it, some a =>
      let plan := (s.plan it.plan).getD []
      let c := s.rateClass a.cls
      let estimate := estimateOf c o.cls it.copies plan.length
      match judgeAdmission a estimate with
      | some cause => (s.updateOrder n fun q => { q with state := .held cause }, none)
      | none => (s.admitItem o it c estimate plan, some (n, it.number))
    | _, _ => (s, none)

/-- R100: the scan of the given orders: it stops at the first admission. -/
def scanOrders : List Nat → State → State × Option (Nat × Nat)
  | [], s => (s, none)
  | n :: rest, s =>
    match s.offer n with
    | (t, some p) => (t, some p)
    | (t, none) => scanOrders rest t

/-- R100: the WAITING orders in scan order: RUSH orders in posting order, then NORMAL orders in posting order. -/
def State.scanList (s : State) : List Nat :=
  let w := s.store.book.posted.filter fun o => o.state == .waiting
  ((w.filter fun o => o.cls == .rush) ++ (w.filter fun o => o.cls == .normal)).map (·.number)

/-- R100: a selection, made whole. -/
def State.select (s : State) : State :=
  if s.rollReady then
    match s.active with
    | some (o, it) => s.enterPlace o.number it.number
    | none =>
      match scanOrders s.scanList s with
      | (t, some (o, i)) => t.enterPlace o i
      | (t, none) => t.enterWaiting .noItem
  else s.enterWaiting .noRoll

/-- R103: whether the cycle is WAITING. -/
def Cycle.isWaiting (c : Cycle) : Bool :=
  match c.state with
  | .waiting _ => true
  | _ => false

/-- R103: a selection, made when the cycle is WAITING. -/
def State.selectIfWaiting (s : State) : State := if s.cycle.isWaiting then s.select else s

/-! ## The shutter's close command and its fault outcomes (R84 to R88) -/

/-- R61, R83: the close command: the coil is released, the windows' live span ends, and the close timeout starts. -/
def State.closeCommand (s : State) : State :=
  { s with
    meter := { s.meter with live := false }
    shutter := { s.shutter with coil := false, timer := some s.store.conf.closeTo } }

/-- The exposure is over: the Shutter Timer is IDLE with no context held, and `measured` is the measured open time. -/
def State.shutterIdle (measured : Option Nat) (s : State) : State :=
  { s with shutter := { s.shutter with phase := .idle, held := none, coil := false, timer := none, measured := measured } }

/-- R80: a context is returned to the head of the queue, or, after an ABRT in the closing (R88), it is dropped and its step
returns to PENDING. -/
def State.returnContext (c : Context) (dropped : Bool) (s : State) : State :=
  if dropped then s.setStep c.ref .pending else { s with contexts := c :: s.contexts }

/-- R109: the controller takes a LAMP, SHUT_OPEN or SHUT_CLOSE outcome: an item whose cancel pending is yes ends CANCELLED,
and the cycle halts. In a cycle that is no longer EXPOSING the outcome makes no halt (R116). -/
def State.reportFault (c : HaltCause) (s : State) : State :=
  if s.cycle.state == .exposing then s.endCancelPending.halt c else s

/-- R87: the outcome LAMP. -/
def State.outcomeLamp (c : Context) (s : State) : State :=
  let t := (((s.spoilGate .lamp c (some s.shutter.ticks)).setStep c.ref .pending).discardQueue.clearMarker).shutterIdle
    (some s.shutter.ticks)
  (t.lookItem c.ref.order c.ref.item).reportFault .lamp

/-- R87: the outcome SHUT_OPEN. It has no measured open time (log entry 36). -/
def State.outcomeShutOpen (c : Context) (s : State) : State :=
  let t := (s.returnContext c false).shutterIdle none
  (t.lookItem c.ref.order c.ref.item).reportFault .shutOpen

/-- R87: the outcome SHUT_CLOSE; `measured` is absent when the contact was open at the beginning (R84). -/
def State.outcomeShutClose (c : Context) (measured : Option Nat) (dropped : Bool) (s : State) : State :=
  let t := (((s.spoilGate .shutClose c measured).returnContext c dropped).clearMarker).shutterIdle measured
  (t.lookItem c.ref.order c.ref.item).reportFault .shutClose

/-- R84: an exposure of the gate frame is asked of the Shutter Timer. -/
def State.beginExposure (s : State) : State :=
  match s.contexts, s.shutter.phase with
  | c :: rest, .idle =>
    let t := { s with contexts := rest, shutter := { s.shutter with held := some c } }
    if s.shutter.contactOpen then t.outcomeShutClose c none false
    else
      { t with
        shutter := { t.shutter with phase := .opening, coil := true, timer := some s.store.conf.openTo } }
  | _, _ => s

/-- R109: the cycle enters EXPOSING and asks for an exposure. -/
def State.enterExposing (s : State) : State := (s.withCycle fun y => { y with state := .exposing }).beginExposure

/-! ## Going forward (R107) -/

/-- R107: going forward with a context queued and the gate frame POSITIONED. -/
def State.exposeOrWarm (l : Light) (s : State) : State :=
  if (s.cycle.lamp l).warm then s.enterExposing else s.enterWarmup l

/-- R107: going forward with an empty queue for a COPY or STAGE item. -/
def State.meterOrWarm (it : Item) (s : State) : State :=
  if (s.cycle.lamp it.mode.lamp).warm then s.enterMetering it.mode.source else s.enterWarmup it.mode.lamp

/-- R107: with an empty queue a MANUAL item is filled, and the choice is made again at the fill's completion. -/
def State.fillManual (it : Item) (s : State) : State :=
  if s.contexts.isEmpty && it.mode.source == .manual then s.fill .manual else s

/-- R107: going forward when the gate frame is POSITIONED, as at the end of a winding. -/
def State.forwardAtGate (s : State) : State :=
  match s.active with
  | none => s
  | some (_, it) =>
    let t := s.fillManual it
    if !t.contexts.isEmpty then t.exposeOrWarm it.mode.lamp
    else if it.mode.source == .manual then t
    else t.meterOrWarm it

/-- R111: at a newly loaded roll's entry to LOADED, queued contexts of another film are discarded. -/
def State.compareReload (film : Nat) (s : State) : State :=
  if s.contexts.any fun c => c.film != film then s.discardQueue else s

end Sys2Proof.Machine
end

