-- ==== Sys2Proof/Machine/LabelOps.lean ====
section
/-! DEFINITION. The shared operations of the Label Composer (chapter 6): the four text lines, the drawing of the raster, the
emblem window and the DOTS stream; and of the Label Print Channel (chapter 7): starting a label, printing rows, the
completion of a label and the look of a PRNT. -/

namespace Sys2Proof.Machine

/-! ## Text (R121 to R125) -/

/-- A number in decimal without leading zeros. -/
def decimal (n : Nat) : Text := Nat.toDigits 10 n

/-- A frame number in decimal with leading zeros to three digits (R123, R173). -/
def frameDigits (n : Nat) : Text := List.replicate (3 - (decimal n).length) '0' ++ decimal n

/-- R123: a frame reference, roll/frame. -/
def frameText (roll frame : Nat) : Text := decimal roll ++ '/' :: frameDigits frame

/-- R124: the fraction of a remainder of 1..11 twelfths. -/
def fractionText (r : Nat) : Text :=
  match r with
  | 4 => ['1', '/', '3']
  | 6 => ['1', '/', '2']
  | 8 => ['2', '/', '3']
  | _ => decimal r ++ ['/', '1', '2']

/-- R124: the bracket mark of an offset that is not 0. -/
def bracketMark (offset : Int) : Text :=
  let a := offset.natAbs
  let s := a / 12
  let r := a % 12
  (if offset < 0 then ['-'] else ['+']) ++
    (if s == 0 then [] else decimal s) ++
    (if r == 0 || s == 0 then [] else [' ']) ++
    (if r == 0 then [] else fractionText r)

/-- R125: a line longer than 32 characters is cut, with the tilde as its 32nd character. -/
def cutLine (t : Text) : Text := if t.length ≤ 32 then t else t.take 31 ++ ['~']

/-- R121: line 1 of an item, for a frame of the given set. -/
def lineOne (it : Item) (set : Nat) : Text :=
  it.catalogue ++ if 1 < it.copies then [' ', 'c'] ++ decimal set ++ '/' :: decimal it.copies else []

/-- R123: line 4 of a frame. -/
def lineFour (roll frame : Nat) (code : Text) (offset : Int) : Text :=
  frameText roll frame ++ (if code.isEmpty then [] else ' ' :: code) ++
    (if offset == 0 then [] else ' ' :: bracketMark offset)

/-- R119: the stock code of the film of a roll. -/
def State.stockCode (roll : Nat) (s : State) : Text :=
  match (s.rollNumbered roll).bind fun r => s.film r.film with
  | some rec => rec.code
  | none => []

/-- R120 to R125: the four text lines of a frame, and whether its item was found. -/
def State.labelLines (f : Frame) (s : State) : List Text × Bool :=
  let code := s.stockCode f.roll
  match f.ref with
  | none => ([[], [], [], lineFour f.roll f.number code 0], false)
  | some r =>
    let four := lineFour f.roll f.number code r.offset
    match s.item r.order r.item with
    | some it => ([lineOne it r.set, cutLine it.title, cutLine it.credit, four], true)
    | none => ([[], [], [], four], false)

/-! ## The raster (R118, R126) -/

/-- R126: the row byte of a character's glyph; a cell after the end of a line is clear. -/
def glyphByte (g : GlyphTable) (q : Nat) (c : Option Char) : Nat :=
  match c with
  | some ch => (((g[ch.toNat - 32]?).bind fun rows => rows[q]?).map (·.toNat)).getD 0
  | none => 0

/-- R118: the 256 dots of one row of the text area, 32 cells of 8 columns. -/
def textRow (g : GlyphTable) (text : Text) (q : Nat) : BitVec 256 :=
  BitVec.ofNat 256 ((List.range 32).foldl (fun acc i => acc * 256 + glyphByte g q text[i]?) 0)

/-- R118: the text area's dots in one row: line 1 to 4 stand in rows 4..15, 16..27, 28..39 and 40..51. -/
def textAreaRow (g : GlyphTable) (lines : List Text) (row : Nat) : BitVec 256 :=
  if row < 4 || 52 ≤ row then 0
  else textRow g ((lines[(row - 4) / 12]?).getD []) ((row - 4) % 12)

/-- R119: the label raster of four text lines: the emblem in columns 0..63 and the text area in columns 64..319. -/
def composeRaster (emblem : EmblemRaster) (g : GlyphTable) (lines : List Text) : LabelRaster :=
  Vector.ofFn fun i : Fin 56 => emblem[i] ++ textAreaRow g lines i.val

/-- R119: the composition of a frame's label. -/
def State.compose (roll frame : Nat) (s : State) : State :=
  match s.frameAt roll frame with
  | some f =>
    { s with
      composer :=
        { s.composer with raster := composeRaster s.store.emblem s.store.glyphs (s.labelLines f).1 } }
  | none => s

/-! ## The emblem window and the DOTS stream (R130, R132) -/

/-- R130: the height of the emblem window. -/
def Composer.height (c : Composer) : Nat := c.y1 - c.y0 + 1

/-- R130: the row length of the emblem window in bytes: its width divided by 8 and rounded up. -/
def Composer.rowLength (c : Composer) : Nat := (c.x1 - c.x0 + 1 + 7) / 8

/-- R130: the capacity of the emblem window in bytes. -/
def Composer.capacity (c : Composer) : Nat := c.rowLength * c.height

/-- R118, R130: one dot of a row of 64, the leftmost column in the most significant bit. -/
def setDot (row : BitVec 64) (col : Nat) (marked : Bool) : BitVec 64 :=
  if marked then row ||| (1#64 <<< (63 - col)) else row &&& ~~~(1#64 <<< (63 - col))

/-- R132: a byte written into a row from a column on; bits beyond column `x1` are discarded. -/
def writeByte (row : BitVec 64) (col x1 : Nat) (b : Byte) : BitVec 64 :=
  (List.range 8).foldl (fun r k => if col + k ≤ x1 then setDot r (col + k) (b.getMsbD k) else r) row

/-- R132: the stream position after a byte, and whether it wrapped. -/
def Composer.advancePos (c : Composer) (i j : Nat) : Nat × Nat × Bool :=
  if j + 1 < c.rowLength then (i, j + 1, false)
  else if i + 1 < c.height then (i + 1, 0, false)
  else (0, 0, true)

/-- R132: a run of bytes written from a position: the raster, the position after it, and the wraps made. -/
def writeDots (c : Composer) : List Byte → EmblemRaster → Nat → Nat → Nat → EmblemRaster × Nat × Nat × Nat
  | [], e, i, j, wraps => (e, i, j, wraps)
  | b :: rest, e, i, j, wraps =>
    let row := c.y0 + i
    let e' := e.setIfInBounds row (writeByte ((e[row]?).getD 0) (c.x0 + 8 * j) c.x1 b)
    match c.advancePos i j with
    | (i', j', wrapped) => writeDots c rest e' i' j' (if wrapped then wraps + 1 else wraps)

/-! ## Hexadecimal strings (R128, R132, R172) -/

/-- A hexadecimal digit's value. -/
def hexDigit (c : Char) : Option Nat :=
  if '0' ≤ c ∧ c ≤ '9' then some (c.toNat - 48)
  else if 'A' ≤ c ∧ c ≤ 'F' then some (c.toNat - 55)
  else if 'a' ≤ c ∧ c ≤ 'f' then some (c.toNat - 87)
  else none

/-- R172: pairs of hexadecimal digits as bytes; none for an odd number of digits or another character. -/
def hexBytes : Text → Option (List Byte)
  | [] => some []
  | [_] => none
  | a :: b :: rest =>
    match hexDigit a, hexDigit b, hexBytes rest with
    | some x, some y, some l => some (BitVec.ofNat 8 (16 * x + y) :: l)
    | _, _, _ => none

/-- R128: the glyph of a field of at most 24 digits; the rows the field does not give are clear. -/
def glyphOf (t : Text) : Option (Vector Byte 12) :=
  if 24 < t.length then none
  else (hexBytes t).map fun l => Vector.ofFn fun i : Fin 12 => (l[i.val]?).getD 0

/-! ## The label print channel (R136 to R144) -/

/-- R174: the LABEL notice. -/
def State.raiseLabel (roll : Nat) (e : LabelEvent) (s : State) : State := s.raise (.label roll e)

/-- The label print channel is rewritten. -/
def State.withPrinter (f : Printer → Printer) (s : State) : State := { s with printer := f s.printer }

/-- The head is idle and the paper stepper stopped: no transfer, strobe or step is under way (R136). -/
def Printer.quiet (p : Printer) : Printer := { p with transferring := false, strobing := false, stepping := false }

/-- R139: the channel enters FEEDING with the row counter at 0. -/
def Printer.startFeed (p : Printer) : Printer := { p.quiet with state := .feeding, rows := 0, strobe := none, paperWait := false }

/-- R139, R144: the channel enters STALLED. -/
def Printer.stall (c : StallCause) (p : Printer) : Printer := { p.quiet with state := .stalled c }

/-- R139: a label is started: it feeds, or stalls at once when the paper is out. -/
def State.startLabel (h : LabelHand) (s : State) : State :=
  let t := s.withPrinter fun p => { p with hand := some h, strobe := none }
  if s.printer.paperOut then (t.withPrinter (Printer.stall .paper)).raiseLabel h.roll .paper
  else t.withPrinter Printer.startFeed

/-- R139, R143: the label at the head of the queue is started. -/
def State.startHead (s : State) : State :=
  match s.printer.queue with
  | (r, f) :: _ => s.startLabel { roll := r, frame := f, kind := .queue }
  | [] => s

/-- R141: the strobe time of a density selection, in hundredths of a millisecond. -/
def strobeTime (density : Nat) : Nat :=
  if density == 1 then 160 else if density == 2 then 200 else if density == 8 then 290 else 240

/-- R140: the channel enters PRINTING: the label is composed, its strobe time is fixed, and the transfer of row 0 begins. The feed's
row step in progress at the label edge (R139) is taken as completed (log entry 71). -/
def State.enterPrinting (h : LabelHand) (s : State) : State :=
  (s.compose h.roll h.frame).withPrinter fun p =>
    { p with
      state := .printing
      rows := 0
      strobe := some (strobeTime s.store.density)
      transferring := true
      strobing := false
      stepping := false }

/-- R140: the strobe of the next row begins when both the paper step and the row's transfer have completed. The row is latched as
its strobe begins, not as its transfer ends (log entry 78). -/
def Printer.strobeIfReady (p : Printer) : Printer :=
  if !p.transferring && !p.stepping then { p with strobing := true, latch := p.shift } else p

/-- R143, R179: the item's labels counter and the frame's PRINTED are one write. -/
def State.markPrinted (f : Frame) (s : State) : State :=
  let counted := match f.ref with
    | some r => s.updateItem r.order r.item fun it => { it with labels := it.labels + 1 }
    | none => s
  (counted.setFrame { f with label := .printed }).withPrinter fun p => { p with queue := p.queue.tail }

/-- R143: step 1 and 2 of a completion of a QUEUE label: the item's labels counter rises, the frame becomes PRINTED, the
Charge Unit looks at the item, the roll is checked, and the frame leaves the head of the queue. -/
def State.printedFrame (f : Frame) (s : State) : State :=
  let marked := s.markPrinted f
  let looked := match f.ref with
    | some r => marked.lookItem r.order r.item
    | none => marked
  looked.checkRoll f.roll

/-- R143 steps 4 to 6: the label in hand is cleared, and the next label is started or the channel enters IDLE. A reprint after
which a label starts raises no LABEL notice: step 6 prevails over R146 (log entry 65). -/
def State.afterLabel (h : LabelHand) (s : State) : State :=
  let t := s.withPrinter fun p => { p.quiet with hand := none, state := .idle, strobe := none }
  match t.printer.queue with
  | _ :: _ => t.startHead
  | [] => t.raiseLabel h.roll (match h.kind with
    | .queue => .empty
    | .rprt => .rprt)

/-- R143: the label in hand is complete. -/
def State.completeLabel (h : LabelHand) (s : State) : State :=
  let t := s.withPrinter fun p => { p with rows := Config.presentRows }
  let u := match h.kind with
    | .queue => match t.frameAt h.roll h.frame with
      | some f => t.printedFrame f
      | none => t.withPrinter fun p => { p with queue := p.queue.tail }
    | .rprt => t
  u.afterLabel h

/-- R139: the row counter reaches 120 with no edge found. -/
def State.feedLimit (h : LabelHand) (s : State) : State :=
  (s.withPrinter fun p => { p.stall .noGap with rows := Config.feedLimit }).raiseLabel h.roll .noGap

/-- R138: why the look of a PRNT ended. -/
inductive LookEnd where
  | undecided (frame : Nat)
  | full (frame : Nat)
  | finished
  deriving DecidableEq, Repr

/-- R138: the look of a PRNT through a roll's frames, with room for `room` more: the frames to append and why it ended. -/
def lookFrames : List Frame → Nat → List Nat × LookEnd
  | [], _ => ([], .finished)
  | f :: rest, room =>
    if f.state == .exposed && f.selection == some .undecided then ([], .undecided f.number)
    else if f.state == .exposed && f.selection == some .kept && f.label == .none then
      match room with
      | 0 => ([], .full f.number)
      | n + 1 =>
        match lookFrames rest n with
        | (l, e) => (f.number :: l, e)
    else lookFrames rest room

/-- R137: the label status of the named frames of a roll. -/
def State.setLabels (roll : Nat) (frames : List Nat) (st : LabelStatus) (s : State) : State :=
  { s with
    store :=
      { s.store with
        frames := s.store.frames.map fun f =>
          if f.roll == roll && frames.contains f.number then { f with label := st } else f } }

/-- R137, R145: the frames of the given references return to NONE. -/
def State.unqueue (refs : List (Nat × Nat)) (s : State) : State :=
  { s with
    store :=
      { s.store with
        frames := s.store.frames.map fun f =>
          if refs.contains (f.roll, f.number) then { f with label := .none } else f } }

end Sys2Proof.Machine
end

