-- ==== Sys2Proof/Machine/Operands.lean ====
section
/-! DEFINITION. Reading a request line (R171, R172): the verbs, the split of a line into fields, the kinds of field, and every
form of every request. What comes out is the command of the opcode table that the line is, or a FORM or VERB refusal.

A field of the wrong form for its kind is found here, before the owner's checks in the order its rule gives (log entry 14). -/

namespace Sys2Proof.Machine

/-- The verbs the part knows, in the order of spec/opcode_table.json. -/
inductive Verb where
  | load | unld | drop | fram | roll | pick | rjct | mark | zone | ramp | wind | conf | offs | gain | calb | wtch | read
  | film | plan | trim | ctxq | calc | ordr | item | post | hold | free | cncl | run | go | lite | cycl | paus | abrt | rsum
  | glyf | embl | dots | ltxt | prnt | pstp | rprt | dens | lque | rate | tier | acct | zero | take | stat | wipe | rset
  | mems
  deriving DecidableEq, Repr

/-- The verb as it is written. -/
def Verb.text : Verb → Text
  | .load => ['L', 'O', 'A', 'D'] | .unld => ['U', 'N', 'L', 'D'] | .drop => ['D', 'R', 'O', 'P']
  | .fram => ['F', 'R', 'A', 'M'] | .roll => ['R', 'O', 'L', 'L'] | .pick => ['P', 'I', 'C', 'K']
  | .rjct => ['R', 'J', 'C', 'T'] | .mark => ['M', 'A', 'R', 'K'] | .zone => ['Z', 'O', 'N', 'E']
  | .ramp => ['R', 'A', 'M', 'P'] | .wind => ['W', 'I', 'N', 'D'] | .conf => ['C', 'O', 'N', 'F']
  | .offs => ['O', 'F', 'F', 'S'] | .gain => ['G', 'A', 'I', 'N'] | .calb => ['C', 'A', 'L', 'B']
  | .wtch => ['W', 'T', 'C', 'H'] | .read => ['R', 'E', 'A', 'D'] | .film => ['F', 'I', 'L', 'M']
  | .plan => ['P', 'L', 'A', 'N'] | .trim => ['T', 'R', 'I', 'M'] | .ctxq => ['C', 'T', 'X', 'Q']
  | .calc => ['C', 'A', 'L', 'C'] | .ordr => ['O', 'R', 'D', 'R'] | .item => ['I', 'T', 'E', 'M']
  | .post => ['P', 'O', 'S', 'T'] | .hold => ['H', 'O', 'L', 'D'] | .free => ['F', 'R', 'E', 'E']
  | .cncl => ['C', 'N', 'C', 'L'] | .run => ['R', 'U', 'N'] | .go => ['G', 'O'] | .lite => ['L', 'I', 'T', 'E']
  | .cycl => ['C', 'Y', 'C', 'L'] | .paus => ['P', 'A', 'U', 'S'] | .abrt => ['A', 'B', 'R', 'T']
  | .rsum => ['R', 'S', 'U', 'M'] | .glyf => ['G', 'L', 'Y', 'F'] | .embl => ['E', 'M', 'B', 'L']
  | .dots => ['D', 'O', 'T', 'S'] | .ltxt => ['L', 'T', 'X', 'T'] | .prnt => ['P', 'R', 'N', 'T']
  | .pstp => ['P', 'S', 'T', 'P'] | .rprt => ['R', 'P', 'R', 'T'] | .dens => ['D', 'E', 'N', 'S']
  | .lque => ['L', 'Q', 'U', 'E'] | .rate => ['R', 'A', 'T', 'E'] | .tier => ['T', 'I', 'E', 'R']
  | .acct => ['A', 'C', 'C', 'T'] | .zero => ['Z', 'E', 'R', 'O'] | .take => ['T', 'A', 'K', 'E']
  | .stat => ['S', 'T', 'A', 'T'] | .wipe => ['W', 'I', 'P', 'E'] | .rset => ['R', 'S', 'E', 'T']
  | .mems => ['M', 'E', 'M', 'S']

/-- Every verb. -/
def Verb.all : List Verb :=
  [.load, .unld, .drop, .fram, .roll, .pick, .rjct, .mark, .zone, .ramp, .wind, .conf, .offs, .gain, .calb, .wtch, .read,
   .film, .plan, .trim, .ctxq, .calc, .ordr, .item, .post, .hold, .free, .cncl, .run, .go, .lite, .cycl, .paus, .abrt,
   .rsum, .glyf, .embl, .dots, .ltxt, .prnt, .pstp, .rprt, .dens, .lque, .rate, .tier, .acct, .zero, .take, .stat, .wipe,
   .rset, .mems]

/-- The verb that a text is. -/
def Verb.ofText (t : Text) : Option Verb := Verb.all.find? fun v => v.text == t

/-! ## Fields (R172) -/

/-- R172: the three forms of a field, with its content. -/
inductive Field where
  | empty
  | plain (t : Text)
  | quoted (t : Text)
  deriving DecidableEq, Repr

/-- R172: where the reading of a list of fields stands: at the start of a field, inside a plain field, inside a quoted field, or
just after a quote that may close one. Characters are held last first. -/
inductive Scan where
  | start
  | plain (t : Text)
  | quoted (t : Text)
  | closed (t : Text)
  deriving DecidableEq, Repr

/-- R172: the fields of a text, `n` being the number of the field being read and `done` the fields before it, last first. The
error is the number of the field at fault. -/
def scanFields : Scan → Nat → List Field → Text → Except Nat (List Field)
  | .start, _, done, [] => .ok (done.reverse ++ [.empty])
  | .plain t, _, done, [] => .ok (done.reverse ++ [.plain t.reverse])
  | .closed t, _, done, [] => .ok (done.reverse ++ [.quoted t.reverse])
  | .quoted _, n, _, [] => .error n
  | .start, n, done, c :: rest =>
    if c == ',' then scanFields .start (n + 1) (.empty :: done) rest
    else if c == '"' then scanFields (.quoted []) n done rest
    else if c == ' ' then .error n
    else scanFields (.plain [c]) n done rest
  | .plain t, n, done, c :: rest =>
    if c == ',' then scanFields .start (n + 1) (.plain t.reverse :: done) rest
    else if c == '"' || c == ' ' then .error n
    else scanFields (.plain (c :: t)) n done rest
  | .quoted t, n, done, c :: rest =>
    if c == '"' then scanFields (.closed t) n done rest else scanFields (.quoted (c :: t)) n done rest
  | .closed t, n, done, c :: rest =>
    if c == '"' then scanFields (.quoted ('"' :: t)) n done rest
    else if c == ',' then scanFields .start (n + 1) (.quoted t.reverse :: done) rest
    else .error n

/-- R171, R172: the fields after the space; nothing after it is no field. -/
def parseFields (t : Text) : Except Nat (List Field) := if t.isEmpty then .ok [] else scanFields .start 1 [] t

/-! ## Kinds of field (R172) -/

/-- What reading a request gives: the command, or a FORM refusal with its field number if it has one. -/
abbrev Read (α : Type) := Except (Option Nat) α

/-- A FORM refusal for a wrong number of fields. -/
def badCount {α : Type} : Read α := .error none

/-- A decimal digit's value. -/
def digit (c : Char) : Option Nat := if '0' ≤ c ∧ c ≤ '9' then some (c.toNat - 48) else none

/-- Decimal digits read after a number so far. -/
def digitsAfter : Nat → Text → Option Nat
  | n, [] => some n
  | n, c :: rest => (digit c).bind fun d => digitsAfter (10 * n + d) rest

/-- One or more decimal digits. -/
def digits (t : Text) : Option Nat := if t.isEmpty then none else digitsAfter 0 t

/-- R172: a number: an optional sign and one or more decimal digits. -/
def numberOf : Text → Option Int
  | '+' :: rest => (digits rest).map fun n => (n : Int)
  | '-' :: rest => (digits rest).map fun n => -(n : Int)
  | t => (digits t).map fun n => (n : Int)

/-- R172: field `n` read as a number. -/
def number (n : Nat) (f : Field) : Read Int :=
  match f with
  | .plain t => match numberOf t with
    | some v => .ok v
    | none => .error (some n)
  | _ => .error (some n)

/-- R172: the characters of a word: capital letters and digits. -/
def wordChar (c : Char) : Bool := ('A' ≤ c && c ≤ 'Z') || ('0' ≤ c && c ≤ '9')

/-- R172: field `n` read as a word. One with a lower-case letter is no word, and is refused FORM (log entry 66). -/
def word (n : Nat) (f : Field) : Read Text :=
  match f with
  | .plain t => if t.all wordChar then .ok t else .error (some n)
  | _ => .error (some n)

/-- R172: field `n` read as text: quoted, or empty. -/
def textField (n : Nat) (f : Field) : Read Text :=
  match f with
  | .quoted t => .ok t
  | .empty => .ok []
  | .plain _ => .error (some n)

/-- R172: field `n` read as the characters of a hexadecimal string: plain or empty. -/
def hexField (n : Nat) (f : Field) : Read Text :=
  match f with
  | .plain t => .ok t
  | .empty => .ok []
  | .quoted _ => .error (some n)

/-- The text before and after the first solidus. -/
def splitSolidus (t : Text) : Option (Text × Text) :=
  match t.span (fun c => c != '/') with
  | (a, _ :: b) => some (a, b)
  | (_, []) => none

/-- R172: field `n` read as a frame reference. -/
def frameRef (n : Nat) (f : Field) : Read (Int × Int) :=
  match f with
  | .plain t =>
    match (splitSolidus t).bind fun p => (numberOf p.1).bind fun a => (numberOf p.2).map fun b => (a, b) with
    | some r => .ok r
    | none => .error (some n)
  | _ => .error (some n)

/-- Fields read by one kind, the first being field `n`. -/
def readAll {α : Type} (kind : Nat → Field → Read α) : Nat → List Field → Read (List α)
  | _, [] => .ok []
  | n, f :: rest =>
    match kind n f, readAll kind (n + 1) rest with
    | .ok a, .ok l => .ok (a :: l)
    | .error e, _ => .error e
    | .ok _, .error e => .error e

/-- Fields read in pairs of numbers, the first being field `n`. -/
def readPairs : Nat → List Field → Read (List (Int × Int))
  | _, [] => .ok []
  | _, [_] => badCount
  | n, a :: b :: rest => do
    let x ← number n a
    let y ← number (n + 1) b
    let l ← readPairs (n + 2) rest
    .ok ((x, y) :: l)

/-- An optional single field: none when there is no field. -/
def optional {α : Type} (kind : Nat → Field → Read α) (l : List Field) : Read (Option α) :=
  match l with
  | [] => .ok none
  | [f] => (kind 1 f).map some
  | _ => badCount

/-! ## Words -/

/-- COPY or STAGE. -/
def lightOf (t : Text) : Option Light :=
  if t == ['C', 'O', 'P', 'Y'] then some .copy
  else if t == ['S', 'T', 'A', 'G', 'E'] then some .stage
  else none

/-- COPY, STAGE or MANUAL. -/
def sourceOf (t : Text) : Option Source :=
  if t == ['C', 'O', 'P', 'Y'] then some .copy
  else if t == ['S', 'T', 'A', 'G', 'E'] then some .stage
  else if t == ['M', 'A', 'N', 'U', 'A', 'L'] then some .manual
  else none

/-- LEADER, SPLICE or NOTE. -/
def zoneKindOf (t : Text) : Option ZoneKind :=
  if t == ['L', 'E', 'A', 'D', 'E', 'R'] then some .leader
  else if t == ['S', 'P', 'L', 'I', 'C', 'E'] then some .splice
  else if t == ['N', 'O', 'T', 'E'] then some .note
  else none

/-- NORMAL or RUSH. -/
def classOf (t : Text) : Option OrderClass :=
  if t == ['N', 'O', 'R', 'M', 'A', 'L'] then some .normal
  else if t == ['R', 'U', 'S', 'H'] then some .rush
  else none

/-- OPEN or CLOSED. -/
def acctStateOf (t : Text) : Option AcctState :=
  if t == ['O', 'P', 'E', 'N'] then some .opened
  else if t == ['C', 'L', 'O', 'S', 'E', 'D'] then some .closed
  else none

/-- ON or OFF. -/
def onOffOf (t : Text) : Option Bool :=
  if t == ['O', 'N'] then some true else if t == ['O', 'F', 'F'] then some false else none

/-- QUAD, PULSEDIR or COUNT. -/
def encModeOf (t : Text) : Option EncMode :=
  if t == ['Q', 'U', 'A', 'D'] then some .quad
  else if t == ['P', 'U', 'L', 'S', 'E', 'D', 'I', 'R'] then some .pulsedir
  else if t == ['C', 'O', 'U', 'N', 'T'] then some .count
  else none

/-- R177: the name of a configuration field. -/
def confName : ConfField → Text
  | .encoder => ['E', 'N', 'C', 'O', 'D', 'E', 'R']
  | .num .leader => ['L', 'E', 'A', 'D', 'E', 'R']
  | .num .tail => ['T', 'A', 'I', 'L']
  | .num .slipTol => ['S', 'L', 'I', 'P', 'T', 'O', 'L']
  | .num .gateTol => ['G', 'A', 'T', 'E', 'T', 'O', 'L']
  | .num .slowDist => ['S', 'L', 'O', 'W', 'D', 'I', 'S', 'T']
  | .num .settle => ['S', 'E', 'T', 'T', 'L', 'E']
  | .num .stall => ['S', 'T', 'A', 'L', 'L']
  | .num .samples => ['S', 'A', 'M', 'P', 'L', 'E', 'S']
  | .num .openTo => ['O', 'P', 'E', 'N', 'T', 'O']
  | .num .closeTo => ['C', 'L', 'O', 'S', 'E', 'T', 'O']
  | .num .warmup => ['W', 'A', 'R', 'M', 'U', 'P']
  | .num .baud => ['B', 'A', 'U', 'D']

/-- R177: the configuration fields in the table's order. -/
def confFields : List ConfField :=
  [.encoder, .num .leader, .num .tail, .num .slipTol, .num .gateTol, .num .slowDist, .num .settle, .num .stall,
   .num .samples, .num .openTo, .num .closeTo, .num .warmup, .num .baud]

/-- R177: the configuration field of a name. -/
def confFieldOf (t : Text) : Option ConfField := confFields.find? fun f => confName f == t

/-- Field `n` read as a word of a set. -/
def wordOf {α : Type} (set : Text → Option α) (n : Nat) (f : Field) : Read (Option α) := (word n f).map set

/-! ## The forms of each request -/

/-- A request that has no fields. -/
def noFields (i : Instr) (l : List Field) : Read Instr := if l.isEmpty then .ok i else badCount

/-- A request with one number field. -/
def oneNumber (mk : Int → Instr) (l : List Field) : Read Instr :=
  match l with
  | [a] => (number 1 a).map mk
  | _ => badCount

/-- A request with one frame reference. -/
def oneFrame (mk : Int → Int → Instr) (l : List Field) : Read Instr :=
  match l with
  | [a] => (frameRef 1 a).map fun r => mk r.1 r.2
  | _ => badCount

/-- R15: LOAD film[,length]. -/
def readLoad (l : List Field) : Read Instr :=
  match l with
  | [a] => do
    let film ← number 1 a
    .ok (.load film none)
  | [a, b] => do
    let film ← number 1 a
    let length ← number 2 b
    .ok (.load film (some length))
  | _ => badCount

/-- R20: ROLL and ROLL roll. -/
def readRoll (l : List Field) : Read Instr := (optional number l).map fun o => match o with
  | none => .rollList
  | some r => .rollQuery r

/-- R28: MARK n,count; MARK n; MARK. -/
def readMark (l : List Field) : Read Instr :=
  match l with
  | [] => .ok .markList
  | [a] => (number 1 a).map .markRemove
  | [a, b] => do
    let n ← number 1 a
    let c ← number 2 b
    .ok (.markRegister n c)
  | _ => badCount

/-- R31: the entries of a ZONE request, in threes. -/
def readZones : Nat → List Field → Read (List ZoneArg)
  | _, [] => .ok []
  | n, a :: b :: c :: rest => do
    let kind ← wordOf zoneKindOf n a
    let low ← number (n + 1) b
    let high ← number (n + 2) c
    let l ← readZones (n + 3) rest
    .ok ({ kind := kind, low := low, high := high } :: l)
  | _, _ => badCount

/-- The word CLEAR. -/
def clearWord : Field := .plain ['C', 'L', 'E', 'A', 'R']

/-- R22: PICK roll/frame[,roll/frame …], with one to seven frames. -/
def readPick (l : List Field) : Read Instr :=
  if l.isEmpty || 7 < l.length then badCount else (readAll frameRef 1 l).map .pick

/-- R31: ZONE kind,low,high[,…]; ZONE CLEAR; ZONE. -/
def readZone (l : List Field) : Read Instr :=
  match l with
  | [] => .ok .zoneList
  | [f] => if f == clearWord then .ok .zoneClear else badCount
  | _ => if l.length % 3 != 0 || 7 * 3 < l.length then badCount else (readZones 1 l).map .zoneWrite

/-- R36: RAMP length,first,interval[,…]; RAMP first. -/
def readRamp (l : List Field) : Read Instr :=
  match l with
  | [a] => (number 1 a).map .rampList
  | a :: b :: c :: rest => do
    let length ← number 1 a
    let first ← number 2 b
    let intervals ← readAll number 3 (c :: rest)
    .ok (.rampWrite length first intervals)
  | _ => badCount

/-- R177: the value of a CONF write, read as its field's kind. -/
def readSetting (name : Text) (f : Field) : Read ConfSetting :=
  match confFieldOf name with
  | none => .ok .unknown
  | some .encoder => (wordOf encModeOf 2 f).map .encoder
  | some (.num g) => (number 2 f).map (.num g)

/-- R177: CONF field,value; CONF field; CONF. -/
def readConf (l : List Field) : Read Instr :=
  match l with
  | [] => .ok .confList
  | [a] => (wordOf confFieldOf 1 a).map .confQuery
  | [a, b] => do
    let name ← word 1 a
    let s ← readSetting name b
    .ok (.confWrite s)
  | _ => badCount

/-- R52: OFFS slot,channel,value; OFFS slot; OFFS. -/
def readOffs (l : List Field) : Read Instr :=
  match l with
  | [] => .ok .offsList
  | [a] => (number 1 a).map .offsEmpty
  | [a, b, c] => do
    let slot ← number 1 a
    let ch ← number 2 b
    let v ← number 3 c
    .ok (.offsWrite slot ch v)
  | _ => badCount

/-- R53: GAIN channel,value; GAIN channel; GAIN. -/
def readGain (l : List Field) : Read Instr :=
  match l with
  | [a, b] => do
    let ch ← number 1 a
    let v ← number 2 b
    .ok (.gainWrite ch v)
  | _ => (optional number l).map .gainQuery

/-- R57, R60: CALB channel,reference; CALB channel; CALB. -/
def readCalb (l : List Field) : Read Instr :=
  match l with
  | [a, b] => do
    let ch ← number 1 a
    let v ← number 2 b
    .ok (.calbStart ch v)
  | _ => (optional number l).map .calbQuery

/-- R63: WTCH n,mask,low,high; WTCH n; WTCH. -/
def readWtch (l : List Field) : Read Instr :=
  match l with
  | [a, b, c, d] => do
    let n ← number 1 a
    let mask ← number 2 b
    let low ← number 3 c
    let high ← number 4 d
    .ok (.wtchWrite n mask low high)
  | _ => (optional number l).map .wtchQuery

/-- R67: FILM id,name,code,K[,threshold,extra …]; FILM id; FILM. -/
def readFilm (l : List Field) : Read Instr :=
  match l with
  | a :: b :: c :: d :: rest =>
    if rest.length % 2 == 1 || 8 < rest.length then badCount
    else do
      let id ← number 1 a
      let name ← textField 2 b
      let code ← textField 3 c
      let k ← number 4 d
      let recip ← readPairs 5 rest
      .ok (.filmWrite id name code k recip)
  | _ => (optional number l).map .filmQuery

/-- R68: PLAN id,offset[,…]; PLAN id; PLAN. -/
def readPlan (l : List Field) : Read Instr :=
  match l with
  | a :: b :: rest =>
    if 6 < rest.length then badCount
    else do
      let id ← number 1 a
      let offsets ← readAll number 2 (b :: rest)
      .ok (.planWrite id offsets)
  | _ => (optional number l).map .planQuery

/-- R69: TRIM source,value; TRIM source; TRIM. -/
def readTrim (l : List Field) : Read Instr :=
  match l with
  | [a, b] => do
    let src ← wordOf lightOf 1 a
    let v ← number 2 b
    .ok (.trimWrite src v)
  | _ => (optional (wordOf lightOf) l).map .trimQuery

/-- R82: CALC film,mode,value,filter,plan. The filter that a MANUAL CALC ignores is a number all the same (R172, log entry 58). -/
def readCalc (l : List Field) : Read Instr :=
  match l with
  | [a, b, c, d, e] => do
    let film ← number 1 a
    let mode ← wordOf sourceOf 2 b
    let value ← number 3 c
    let filter ← number 4 d
    let plan ← number 5 e
    .ok (.calc film mode value filter plan)
  | _ => badCount

/-- R93: ORDR order,account,class; ORDR order; ORDR. -/
def readOrdr (l : List Field) : Read Instr :=
  match l with
  | [a, b, c] => do
    let order ← number 1 a
    let account ← number 2 b
    let cls ← wordOf classOf 3 c
    .ok (.ordrCreate order account cls)
  | _ => (optional number l).map .ordrQuery

/-- R94: the eight fields of an ITEM, with the lamp its ninth field names. -/
def readItemFields (a b c d e f g h : Field) (lamp : Option Source → Read (Option (Option Light))) : Read Instr := do
  let order ← number 1 a
  let catalogue ← textField 2 b
  let title ← textField 3 c
  let credit ← textField 4 d
  let mode ← wordOf sourceOf 5 e
  let value ← number 6 f
  let plan ← number 7 g
  let copies ← number 8 h
  let lamp ← lamp mode
  .ok (.itemAdd order catalogue title credit mode value plan copies lamp)

/-- R94: ITEM order,catalogue,title,credit,mode,value,plan,copies[,lamp]; ITEM order,item. A ninth field is read for a MANUAL
item only. -/
def readItem (l : List Field) : Read Instr :=
  match l with
  | [a, b] => do
    let order ← number 1 a
    let item ← number 2 b
    .ok (.itemQuery order item)
  | [a, b, c, d, e, f, g, h] => readItemFields a b c d e f g h fun _ => .ok none
  | [a, b, c, d, e, f, g, h, i] =>
    readItemFields a b c d e f g h fun mode =>
      if mode == some .manual then (wordOf lightOf 9 i).map some else .ok none
  | _ => badCount

/-- R99: CNCL order; CNCL order,item. -/
def readCncl (l : List Field) : Read Instr :=
  match l with
  | [a] => (number 1 a).map .cnclOrder
  | [a, b] => do
    let order ← number 1 a
    let item ← number 2 b
    .ok (.cnclItem order item)
  | _ => badCount

/-- R102: LITE lamp,state; LITE. -/
def readLite (l : List Field) : Read Instr :=
  match l with
  | [] => .ok .liteQuery
  | [a, b] => do
    let lamp ← wordOf lightOf 1 a
    let state ← wordOf onOffOf 2 b
    .ok (.liteSet lamp state)
  | _ => badCount

/-- R128, R129: GLYF code,glyph[,…]; GLYF code. -/
def readGlyf (l : List Field) : Read Instr :=
  match l with
  | [a] => (number 1 a).map .glyfQuery
  | a :: b :: rest =>
    if 15 < rest.length then badCount
    else do
      let code ← number 1 a
      let glyphs ← readAll hexField 2 (b :: rest)
      .ok (.glyfLoad code glyphs)
  | [] => badCount

/-- R131: EMBL x0,x1,y0,y1; EMBL CLEAR; EMBL. The answer to a single field that is not CLEAR, of whatever form, is its refusal. -/
def readEmbl (l : List Field) : Except Answer Instr :=
  match l with
  | [] => .ok .emblQuery
  | [a] => if a == clearWord then .ok .emblClear else .error (refuseAt .range 1)
  | [a, b, c, d] =>
    match number 1 a, number 2 b, number 3 c, number 4 d with
    | .ok x0, .ok x1, .ok y0, .ok y1 => .ok (.emblWindow x0 x1 y0 y1)
    | .error e, _, _, _ => .error (.refuse .form e)
    | _, .error e, _, _ => .error (.refuse .form e)
    | _, _, .error e, _ => .error (.refuse .form e)
    | _, _, _, .error e => .error (.refuse .form e)
  | _ => .error (refuse .form)

/-- R132: DOTS data. -/
def readDots (l : List Field) : Read Instr :=
  match l with
  | [a] => (hexField 1 a).map .dots
  | _ => badCount

/-- R150: RATE class,frame,reject,spoil,label,minimum,rush; RATE class; RATE. -/
def readRate (l : List Field) : Read Instr :=
  match l with
  | [a, b, c, d, e, f, g] => do
    let cls ← number 1 a
    let frame ← number 2 b
    let reject ← number 3 c
    let spoil ← number 4 d
    let label ← number 5 e
    let minimum ← number 6 f
    let rush ← number 7 g
    .ok (.rateWrite cls frame reject spoil label minimum rush)
  | _ => (optional number l).map .rateQuery

/-- R151: the entries of a TIER request, in threes. -/
def readTiers : Nat → List Field → Read (List TierArg)
  | _, [] => .ok []
  | n, a :: b :: c :: rest => do
    let low ← number n a
    let high ← number (n + 1) b
    let d ← number (n + 2) c
    let l ← readTiers (n + 3) rest
    .ok ({ low := low, high := high, discount := d } :: l)
  | _, _ => badCount

/-- R151: TIER low,high,discount[,…]; TIER CLEAR; TIER. -/
def readTier (l : List Field) : Read Instr :=
  match l with
  | [] => .ok .tierList
  | [f] => if f == clearWord then .ok .tierClear else badCount
  | _ => if l.length % 3 != 0 || 8 * 3 < l.length then badCount else (readTiers 1 l).map .tierWrite

/-- R153: an allowance field, which may be given empty. -/
def allowanceField (f : Field) : Read (Option Int) :=
  match f with
  | .empty => .ok none
  | _ => (number 4 f).map some

/-- R153: ACCT account,name,class[,allowance[,state]]; ACCT account; ACCT; ACCT account,REMOVE. The answer to another second word
is its refusal, after that of an account outside its range (log entry 40). -/
def readAcct (l : List Field) : Except Answer Instr :=
  let form (r : Read Instr) : Except Answer Instr := match r with
    | .ok i => .ok i
    | .error e => .error (.refuse .form e)
  match l with
  | [a, b] =>
    match number 1 a, word 2 b with
    | .ok n, .ok t =>
      if t == ['R', 'E', 'M', 'O', 'V', 'E'] then .ok (.acctRemove n)
      else if inRange 1 9999 n then .error (refuseAt .range 2)
      else .error (refuseAt .range 1)
    | .error e, _ => .error (.refuse .form e)
    | .ok _, .error e => .error (.refuse .form e)
  | a :: b :: c :: rest =>
    if 2 < rest.length then .error (refuse .form)
    else form do
      let account ← number 1 a
      let name ← textField 2 b
      let cls ← number 3 c
      match rest with
      | [] => .ok (.acctWrite account name cls none none)
      | [d] => do
        let allowance ← allowanceField d
        .ok (.acctWrite account name cls (some allowance) none)
      | d :: e :: _ => do
        let allowance ← allowanceField d
        let state ← wordOf acctStateOf 5 e
        .ok (.acctWrite account name cls (some allowance) (some state))
  | _ => form ((optional number l).map .acctQuery)

/-- R163: TAKE n; TAKE. -/
def readTake (l : List Field) : Read Instr := (optional number l).map fun o => match o with
  | none => .takeState
  | some n => .take n

/-- R142: DENS value; DENS. -/
def readDens (l : List Field) : Read Instr := (optional number l).map fun o => match o with
  | none => .densQuery
  | some v => .densWrite v

/-- R182: WIPE with its one field, which is ALL or another, of whatever form. -/
def readWipe (l : List Field) : Read Instr :=
  match l with
  | [a] => .ok (.wipe (a == .plain ['A', 'L', 'L']))
  | _ => badCount

/-- R171, R172: the request of a verb with its fields, or the refusal that reading it gives. -/
def readRequest (v : Verb) (l : List Field) : Except Answer Instr :=
  let form (r : Read Instr) : Except Answer Instr := match r with
    | .ok i => .ok i
    | .error e => .error (.refuse .form e)
  match v with
  | .load => form (readLoad l)
  | .unld => form (noFields .unld l)
  | .drop => form (oneNumber .drop l)
  | .fram => form (oneFrame .fram l)
  | .roll => form (readRoll l)
  | .pick => form (readPick l)
  | .rjct => form (oneFrame .rjct l)
  | .mark => form (readMark l)
  | .zone => form (readZone l)
  | .ramp => form (readRamp l)
  | .wind => form (noFields .wind l)
  | .conf => form (readConf l)
  | .offs => form (readOffs l)
  | .gain => form (readGain l)
  | .calb => form (readCalb l)
  | .wtch => form (readWtch l)
  | .read => form ((optional number l).map .read)
  | .film => form (readFilm l)
  | .plan => form (readPlan l)
  | .trim => form (readTrim l)
  | .ctxq => form (noFields .ctxq l)
  | .calc => form (readCalc l)
  | .ordr => form (readOrdr l)
  | .item => form (readItem l)
  | .post => form (oneNumber .post l)
  | .hold => form (oneNumber .hold l)
  | .free => form (oneNumber .free l)
  | .cncl => form (readCncl l)
  | .run => form (noFields .run l)
  | .go => form (noFields .go l)
  | .lite => form (readLite l)
  | .cycl => form (noFields .cycl l)
  | .paus => form (noFields .paus l)
  | .abrt => form (noFields .abrt l)
  | .rsum => form (noFields .rsum l)
  | .glyf => form (readGlyf l)
  | .embl => readEmbl l
  | .dots => form (readDots l)
  | .ltxt => form (oneFrame .ltxt l)
  | .prnt => form (oneNumber .prnt l)
  | .pstp => form (noFields .pstp l)
  | .rprt => form (oneFrame .rprt l)
  | .dens => form (readDens l)
  | .lque => form (noFields .lque l)
  | .rate => form (readRate l)
  | .tier => form (readTier l)
  | .acct => readAcct l
  | .zero => form (oneNumber .zero l)
  | .take => form (readTake l)
  | .stat => form (noFields .stat l)
  | .wipe => form (readWipe l)
  | .rset => form (noFields .rset l)
  | .mems => form (noFields .mems l)

/-! ## The checks of a line (R171) -/

/-- A capital letter A to Z. -/
def capital (c : Char) : Bool := 'A' ≤ c && c ≤ 'Z'

/-- The text before and after the first space of a line. -/
def splitSpace (t : Text) : Text × Text :=
  match t.span (fun c => c != ' ') with
  | (a, _ :: b) => (a, b)
  | (a, []) => (a, [])

/-- Whether a line begins with one of the two verbs of fewer than four letters, RUN and GO (log entry 13). -/
def shortVerb (t : Text) : Option Verb :=
  let w := (splitSpace t).1
  if w == Verb.text .run then some .run else if w == Verb.text .go then some .go else none

/-- R171: whether the first four characters are capital letters A to Z. -/
def fourCapitals (t : Text) : Bool := (t.take 4).length == 4 && (t.take 4).all capital

/-- R173: the verb that a reply carries: the line's first four characters when they are capital letters, else "----" (and
RUN or GO for a line of those verbs). -/
def lineVerb (t : Text) : Text :=
  match shortVerb t with
  | some v => v.text
  | none => if fourCapitals t then t.take 4 else ['-', '-', '-', '-']

/-- R171: the checks of a line that is neither too long nor malformed: the request it is, with its verb, or its refusal. -/
def checkLine (t : Text) : Except Answer (Verb × Instr) :=
  let fields (v : Verb) (rest : Text) : Except Answer (Verb × Instr) :=
    match parseFields rest with
    | .error n => .error (refuseAt .form n)
    | .ok l =>
      if Config.maxFields < l.length then .error (refuse .form)
      else (readRequest v l).map fun i => (v, i)
  match shortVerb t with
  | some v => fields v (splitSpace t).2
  | none =>
    if !fourCapitals t then .error (refuse .form)
    else
      match t.drop 4 with
      | [] => match Verb.ofText (t.take 4) with
        | none => .error (refuse .verb)
        | some v => fields v []
      | c :: rest =>
        if c != ' ' then .error (refuse .form)
        else match Verb.ofText (t.take 4) with
          | none => .error (refuse .verb)
          | some v => fields v rest

end Sys2Proof.Machine
end

