-- ==== Sys2Proof/Machine/Lines.lean ====
section
/-! DEFINITION. How states, causes and notices are written as words, and how a reply and a notice are written as a line
(R173, R174, R175). -/

namespace Sys2Proof.Machine

/-! ## Words -/

def Roll.stateWord : RollState → Text
  | .threading => ['T', 'H', 'R', 'E', 'A', 'D', 'I', 'N', 'G']
  | .loaded => ['L', 'O', 'A', 'D', 'E', 'D']
  | .ended => ['E', 'N', 'D', 'E', 'D']
  | .closed => ['C', 'L', 'O', 'S', 'E', 'D']
  | .settled => ['S', 'E', 'T', 'T', 'L', 'E', 'D']

def ThreadFault.word : ThreadFault → Text
  | .jam => ['J', 'A', 'M']
  | .slip => ['S', 'L', 'I', 'P']
  | .tableFull => ['T', 'A', 'B', 'L', 'E', '_', 'F', 'U', 'L', 'L']

def FrameState.word : FrameState → Text
  | .positioned => ['P', 'O', 'S', 'I', 'T', 'I', 'O', 'N', 'E', 'D']
  | .exposed => ['E', 'X', 'P', 'O', 'S', 'E', 'D']
  | .spoiled => ['S', 'P', 'O', 'I', 'L', 'E', 'D']
  | .void => ['V', 'O', 'I', 'D']

def FrameCause.word : FrameCause → Text
  | .zone => ['Z', 'O', 'N', 'E']
  | .misreg => ['M', 'I', 'S', 'R', 'E', 'G']
  | .unload => ['U', 'N', 'L', 'O', 'A', 'D']
  | .power => ['P', 'O', 'W', 'E', 'R']
  | .wind => ['W', 'I', 'N', 'D']
  | .lamp => ['L', 'A', 'M', 'P']
  | .shutClose => ['S', 'H', 'U', 'T', '_', 'C', 'L', 'O', 'S', 'E']
  | .abort => ['A', 'B', 'O', 'R', 'T']

def Selection.word : Selection → Text
  | .undecided => ['U', 'N', 'D', 'E', 'C', 'I', 'D', 'E', 'D']
  | .kept => ['K', 'E', 'P', 'T']
  | .rejected => ['R', 'E', 'J', 'E', 'C', 'T', 'E', 'D']

def LabelStatus.word : LabelStatus → Text
  | .none => ['N', 'O', 'N', 'E']
  | .queued => ['Q', 'U', 'E', 'U', 'E', 'D']
  | .printed => ['P', 'R', 'I', 'N', 'T', 'E', 'D']

/-- R75: the flags that are set, in the order METER_HIGH, METER_LOW, MANUAL, RECIP, CLAMP_LOW, CLAMP_HIGH of R75 and R76. -/
def Flags.words (f : Flags) : List Text :=
  (if f.meterHigh then [['M', 'E', 'T', 'E', 'R', '_', 'H', 'I', 'G', 'H']] else []) ++
  (if f.meterLow then [['M', 'E', 'T', 'E', 'R', '_', 'L', 'O', 'W']] else []) ++
  (if f.manual then [['M', 'A', 'N', 'U', 'A', 'L']] else []) ++
  (if f.recip then [['R', 'E', 'C', 'I', 'P']] else []) ++
  (if f.clampLow then [['C', 'L', 'A', 'M', 'P', '_', 'L', 'O', 'W']] else []) ++
  (if f.clampHigh then [['C', 'L', 'A', 'M', 'P', '_', 'H', 'I', 'G', 'H']] else [])

def zoneKindWord : ZoneKind → Text
  | .leader => ['L', 'E', 'A', 'D', 'E', 'R']
  | .splice => ['S', 'P', 'L', 'I', 'C', 'E']
  | .note => ['N', 'O', 'T', 'E']

def encModeWord : EncMode → Text
  | .quad => ['Q', 'U', 'A', 'D']
  | .pulsedir => ['P', 'U', 'L', 'S', 'E', 'D', 'I', 'R']
  | .count => ['C', 'O', 'U', 'N', 'T']

def sourceWord : Source → Text
  | .copy => ['C', 'O', 'P', 'Y']
  | .stage => ['S', 'T', 'A', 'G', 'E']
  | .manual => ['M', 'A', 'N', 'U', 'A', 'L']

def lightWord : Light → Text
  | .copy => ['C', 'O', 'P', 'Y']
  | .stage => ['S', 'T', 'A', 'G', 'E']

def classWord : OrderClass → Text
  | .normal => ['N', 'O', 'R', 'M', 'A', 'L']
  | .rush => ['R', 'U', 'S', 'H']

def acctStateWord : AcctState → Text
  | .opened => ['O', 'P', 'E', 'N']
  | .closed => ['C', 'L', 'O', 'S', 'E', 'D']

def ItemState.word : ItemState → Text
  | .pending => ['P', 'E', 'N', 'D', 'I', 'N', 'G']
  | .active => ['A', 'C', 'T', 'I', 'V', 'E']
  | .done => ['D', 'O', 'N', 'E']
  | .cancelled => ['C', 'A', 'N', 'C', 'E', 'L', 'L', 'E', 'D']
  | .settled => ['S', 'E', 'T', 'T', 'L', 'E', 'D']

/-- R94: a step status is one letter. -/
def StepStatus.letter : StepStatus → Char
  | .pending => 'P'
  | .queued => 'Q'
  | .done => 'D'

def OrderState.word : OrderState → Text
  | .building => ['B', 'U', 'I', 'L', 'D', 'I', 'N', 'G']
  | .waiting => ['W', 'A', 'I', 'T', 'I', 'N', 'G']
  | .active => ['A', 'C', 'T', 'I', 'V', 'E']
  | .done => ['D', 'O', 'N', 'E']
  | .held _ => ['H', 'E', 'L', 'D']

def HoldCause.word : HoldCause → Text
  | .host => ['H', 'O', 'S', 'T']
  | .allowance => ['A', 'L', 'L', 'O', 'W', 'A', 'N', 'C', 'E']
  | .closed => ['C', 'L', 'O', 'S', 'E', 'D']

def WaitCause.word : WaitCause → Text
  | .noRoll => ['N', 'O', 'R', 'O', 'L', 'L']
  | .noItem => ['N', 'O', 'I', 'T', 'E', 'M']

def HaltCause.word : HaltCause → Text
  | .rollEnd => ['R', 'O', 'L', 'L', '_', 'E', 'N', 'D']
  | .tableFull => ['T', 'A', 'B', 'L', 'E', '_', 'F', 'U', 'L', 'L']
  | .jam => ['J', 'A', 'M']
  | .slip => ['S', 'L', 'I', 'P']
  | .lamp => ['L', 'A', 'M', 'P']
  | .shutOpen => ['S', 'H', 'U', 'T', '_', 'O', 'P', 'E', 'N']
  | .shutClose => ['S', 'H', 'U', 'T', '_', 'C', 'L', 'O', 'S', 'E']

def CycleState.word : CycleState → Text
  | .stopped => ['S', 'T', 'O', 'P', 'P', 'E', 'D']
  | .place => ['P', 'L', 'A', 'C', 'E']
  | .warmup => ['W', 'A', 'R', 'M', 'U', 'P']
  | .metering => ['M', 'E', 'T', 'E', 'R', 'I', 'N', 'G']
  | .exposing => ['E', 'X', 'P', 'O', 'S', 'I', 'N', 'G']
  | .winding => ['W', 'I', 'N', 'D', 'I', 'N', 'G']
  | .waiting _ => ['W', 'A', 'I', 'T', 'I', 'N', 'G']
  | .halted _ _ => ['H', 'A', 'L', 'T', 'E', 'D']

def ShutterPhase.word : ShutterPhase → Text
  | .idle => ['I', 'D', 'L', 'E']
  | .opening => ['O', 'P', 'E', 'N', 'I', 'N', 'G']
  | .opened => ['O', 'P', 'E', 'N']
  | .closing _ _ => ['C', 'L', 'O', 'S', 'I', 'N', 'G']

def ChanState.word : ChanState → Text
  | .idle => ['I', 'D', 'L', 'E']
  | .feeding => ['F', 'E', 'E', 'D', 'I', 'N', 'G']
  | .printing => ['P', 'R', 'I', 'N', 'T', 'I', 'N', 'G']
  | .presenting => ['P', 'R', 'E', 'S', 'E', 'N', 'T', 'I', 'N', 'G']
  | .stalled _ => ['S', 'T', 'A', 'L', 'L', 'E', 'D']

def StallCause.word : StallCause → Text
  | .noGap => ['N', 'O', 'G', 'A', 'P']
  | .paper => ['P', 'A', 'P', 'E', 'R']

def LabelKind.word : LabelKind → Text
  | .queue => ['Q', 'U', 'E', 'U', 'E']
  | .rprt => ['R', 'P', 'R', 'T']

def LabelEvent.word : LabelEvent → Text
  | .noGap => ['N', 'O', 'G', 'A', 'P']
  | .paper => ['P', 'A', 'P', 'E', 'R']
  | .empty => ['E', 'M', 'P', 'T', 'Y']
  | .rprt => ['R', 'P', 'R', 'T']
  | .stopped => ['S', 'T', 'O', 'P', 'P', 'E', 'D']

def StartKind.word : StartKind → Text
  | .cold => ['C', 'O', 'L', 'D']
  | .wipe => ['W', 'I', 'P', 'E']
  | .warm => ['W', 'A', 'R', 'M']
  | .resetLine => ['R', 'E', 'S', 'E', 'T', 'L', 'I', 'N', 'E']
  | .rset => ['R', 'S', 'E', 'T']

def NoticeKind.word : NoticeKind → Text
  | .place => ['P', 'L', 'A', 'C', 'E']
  | .halt => ['H', 'A', 'L', 'T']
  | .done => ['D', 'O', 'N', 'E']
  | .roll => ['R', 'O', 'L', 'L']
  | .zone => ['Z', 'O', 'N', 'E']
  | .label => ['L', 'A', 'B', 'E', 'L']
  | .settle => ['S', 'E', 'T', 'T', 'L', 'E']
  | .meter => ['M', 'E', 'T', 'E', 'R']

def Code.word : Code → Text
  | .form => ['F', 'O', 'R', 'M']
  | .verb => ['V', 'E', 'R', 'B']
  | .range => ['R', 'A', 'N', 'G', 'E']
  | .busy => ['B', 'U', 'S', 'Y']
  | .full => ['F', 'U', 'L', 'L']
  | .none => ['N', 'O', 'N', 'E']
  | .dup => ['D', 'U', 'P']
  | .state => ['S', 'T', 'A', 'T', 'E']
  | .open_ => ['O', 'P', 'E', 'N']
  | .long => ['L', 'O', 'N', 'G']
  | .over => ['O', 'V', 'E', 'R']
  | .part => ['P', 'A', 'R', 'T']

/-- Y or N. -/
def yesNo (b : Bool) : RField := .word (if b then ['Y'] else ['N'])

/-- Flags joined by "+", empty when none is set (R19). -/
def flagsField (f : Flags) : RField := if f.words.isEmpty then .empty else .plus f.words

/-- R101, R176: the waiting or halt cause of a cycle state. -/
def CycleState.causeField : CycleState → RField
  | .waiting c => .word c.word
  | .halted c _ => .word c.word
  | .stopped => .empty
  | .place => .empty
  | .warmup => .empty
  | .metering => .empty
  | .exposing => .empty
  | .winding => .empty

/-! ## Lines (R173, R174) -/

/-- Texts joined by a character. -/
def joinBy (sep : Char) : List Text → Text
  | [] => []
  | [t] => t
  | t :: rest => t ++ sep :: joinBy sep rest

/-- R173: a number in decimal, with "-" before a negative one. -/
def intText (n : Int) : Text := if n < 0 then '-' :: decimal n.natAbs else decimal n.natAbs

/-- R173: text is quoted, with each quote doubled. -/
def quoteText (t : Text) : Text := '"' :: (t.flatMap fun c => if c == '"' then ['"', '"'] else [c]) ++ ['"']

/-- A digit of a hexadecimal number, with capital letters (R129). -/
def hexChar (n : Nat) : Char := if n < 10 then Char.ofNat (48 + n) else Char.ofNat (55 + n)

/-- A byte as two hexadecimal digits. -/
def byteText (b : Byte) : Text := [hexChar (b.toNat / 16), hexChar (b.toNat % 16)]

/-- R173: a field of a reply as it is written. -/
def RField.written : RField → Text
  | .empty => []
  | .num n => intText n
  | .word w => w
  | .text t => quoteText t
  | .frame r f => frameText r f
  | .dotted ns => joinBy '.' (ns.map decimal)
  | .plus ws => joinBy '+' ws
  | .hex bytes => bytes.flatMap byteText

/-- R173: the word CLAMPED and the numbers of the clamped fields, as further fields. -/
def clampFields (clamped : List Nat) : List RField :=
  if clamped.isEmpty then [] else .word ['C', 'L', 'A', 'M', 'P', 'E', 'D'] :: clamped.map numF

/-- R173: a reply as it is written, up to its CR and LF. -/
def Reply.text (r : Reply) : Text :=
  match r.answer with
  | .accept fields clamped _ =>
    let l := fields ++ clampFields clamped
    '=' :: r.verb ++ if l.isEmpty then [] else ' ' :: joinBy ',' (l.map RField.written)
  | .refuse code field =>
    '?' :: r.verb ++ ' ' :: code.word ++
      match field with
      | some n => ',' :: decimal n
      | none => []

/-- R174: the reference of a notice. -/
def Notice.reference : Notice → Text
  | .place o i => decimal o ++ '.' :: decimal i
  | .halt c wind => c.word ++ if wind then [',', 'W', 'I', 'N', 'D'] else []
  | .done o i cancelled =>
    decimal o ++ '.' :: decimal i ++ ',' :: (if cancelled then ItemState.cancelled else ItemState.done).word
  | .rollState r st => decimal r ++ ',' :: Roll.stateWord st
  | .rollMark r m => decimal r ++ [',', 'M', 'A', 'R', 'K'] ++ decimal m
  | .zone r f => frameText r f
  | .label r e => decimal r ++ ',' :: e.word
  | .settle n => decimal n
  | .meter ch good gain =>
    decimal ch ++ ',' :: (if good then ['O', 'K'] else ['C', 'A', 'L', 'R', 'A', 'N', 'G', 'E']) ++ ',' :: decimal gain

/-- R174: a notice as it is written, up to its CR and LF. -/
def Notice.text (n : Notice) : Text := '!' :: n.kind.word ++ ' ' :: n.reference

/-- R173, R174: a line ends with CR and LF. -/
def endLine (t : Text) : Text := t ++ ['\r', '\n']

/-- R173: a reply as a line, with its CR and LF. -/
def Reply.line (r : Reply) : Text := endLine r.text

/-- R174: a notice as a line, with its CR and LF. -/
def Notice.line (n : Notice) : Text := endLine n.text

/-- R175: the line the transmitter is sending, with its CR and LF. -/
def State.sending (s : State) : Option Text :=
  match s.outbox.tx with
  | .idle => none
  | .reply => (s.link.replies.head?).map Reply.line
  | .notice n => some n.line

end Sys2Proof.Machine
end

