-- ==== Sys2Proof/Machine/LinkOps.lean ====
section
/-! DEFINITION. The shared operations of the Line Link (chapter 9): when a request can be taken, how its reply is placed, the
OVER replies, the receiving of characters and the ends of lines. -/

namespace Sys2Proof.Machine

/-! ## Replies (R168, R170) -/

/-- A reply joins the tail of the reply queue, and an idle transmitter takes it up. -/
def State.placeReply (r : Reply) (s : State) : State :=
  { s with link := { s.link with replies := s.link.replies ++ [r] } }.wake

/-- R168: the reply for a line lost to overrun. -/
def overReply : Reply := { verb := ['-', '-', '-', '-'], answer := refuse .over }

/-- R169: the reply for a partial line. -/
def partReply : Reply := { verb := ['-', '-', '-', '-'], answer := refuse .part }

/-- R168: the OVER replies that are owed are placed as the queue has room. -/
def Link.placeOvers (l : Link) : Link :=
  let n := min l.overOwed (Config.maxReplies - l.replies.length)
  { l with replies := l.replies ++ List.replicate n overReply, overOwed := l.overOwed - n }

/-- R168: the OVER replies that are owed are placed as the queue has room. -/
def State.placeOvers (s : State) : State := { s with link := s.link.placeOvers }.wake

/-- R170, R178, R182: a request can be taken: the part runs, no lines are being discarded, every OVER reply owed is placed, and
the reply queue has a free place. -/
def State.canTake (s : State) : Bool :=
  s.live && !s.link.discard && s.link.overOwed == 0 && s.link.replies.length < Config.maxReplies

/-- R133: the DOTS stream is ended by every request other than DOTS. -/
def State.endStream (s : State) : State := { s with composer := { s.composer with stream := none } }

/-- R175: a transmitter that is idle when a request is taken will send that request's reply first. -/
def State.reserveTx (s : State) : State :=
  if s.outbox.tx == .idle then { s with outbox := { s.outbox with tx := .reply } } else s

/-- R170: a request is taken: its owner decides on the state as it then stands, a request other than DOTS ends the DOTS stream,
and the answer is placed as the reply. -/
def State.answer (v : Verb) (own : State → State × Answer) (s : State) : State :=
  match own s.reserveTx with
  | (t, a) => (if v == .dots then t else t.endStream).placeReply { verb := v.text, answer := a }

/-- A request as a command: it is taken when the part can take one, and otherwise it waits untaken. -/
def request (v : Verb) (own : State → State × Answer) (s : State) : Out :=
  .next (if s.canTake then s.answer v own else s)

/-- An owner that changes nothing: a query. -/
def asks (f : State → Answer) (s : State) : State × Answer := (s, f s)

/-! ## Receiving (R167 to R169) -/

/-- R167: the slot that is FILLING. -/
def Link.filling (l : Link) : Option LineSlot := l.slots.find? fun x => x.state == .filling

/-- R167: the FILLING slot is rewritten. -/
def Link.updateFilling (f : LineSlot → LineSlot) (l : Link) : Link :=
  { l with slots := l.slots.map fun x => if x.state == .filling then f x else x }

/-- R167: an EMPTY slot exists. -/
def Link.emptySlot (l : Link) : Bool := l.slots.length < Config.maxSlots

/-- R166, R167: a character that is never stored, and marks its line malformed: one outside the codes 32..126, or with a framing
error. -/
def badChar (c : Byte) (framing : Bool) : Bool := framing || c.toNat < 32 || 126 < c.toNat

/-- R167: a character of a line is stored, or marks the line: every character beyond the 160th marks it too long, and a character
that cannot be stored marks it malformed. A line's characters are all that came between its first and its CR, stored or not (log
entry 51). -/
def LineSlot.receive (c : Byte) (framing : Bool) (x : LineSlot) : LineSlot :=
  let bad := badChar c framing
  let y := { x with malformed := x.malformed || bad }
  if Config.maxLine ≤ x.count then { y with tooLong := true }
  else
    { y with
      count := x.count + 1
      badHead := x.badHead || (bad && x.count < 4)
      chars := if bad then x.chars else x.chars ++ [Char.ofNat c.toNat] }

/-- R167: an EMPTY slot that a line begins in. -/
def LineSlot.fresh : LineSlot :=
  { state := .filling, chars := [], count := 0, badHead := false, tooLong := false, malformed := false, overrun := 0 }

/-- R167: a slot that is READY or TIMED_OUT is full. -/
def LineSlot.full (x : LineSlot) : Bool := x.state != .filling

/-- R167: one is added to an overrun count, up to 255. -/
def LineSlot.addOverrun (x : LineSlot) : LineSlot := { x with overrun := min Config.maxOverrun (x.overrun + 1) }

/-- R168: one is added to the overrun count of the younger full slot, the last full slot of the list. -/
def addToYoungest : List LineSlot → List LineSlot
  | [] => []
  | x :: rest =>
    if rest.any LineSlot.full then x :: addToYoungest rest
    else if x.full then x.addOverrun :: rest
    else x :: rest

/-- R168: an overrun line ends: it counts at the younger full slot, or, when no slot is full, its OVER reply is owed as if
carried by the slot dispatched last. -/
def Link.endOverrun (l : Link) : Link :=
  let m := { l with lost := none }
  if m.slots.any LineSlot.full then { m with slots := addToYoungest m.slots }
  else ({ m with overOwed := min Config.maxOverrun (m.overOwed + 1) }).placeOvers

/-- R167, R178: a character that is neither CR nor LF. -/
def Link.character (c : Byte) (framing : Bool) (l : Link) : Link :=
  if l.filling.isSome then l.updateFilling (LineSlot.receive c framing)
  else if l.lost.isSome then l
  else if l.discard then { l with lost := some .discarded }
  else if l.emptySlot then { l with slots := l.slots ++ [LineSlot.fresh.receive c framing] }
  else { l with lost := some .overrun }

/-- R167, R168: a CR, the end of the line that is arriving. -/
def Link.lineEnd (l : Link) : Link :=
  if l.filling.isSome then l.updateFilling fun x => { x with state := .ready }
  else match l.lost with
    | some .overrun => l.endOverrun
    | some .discarded => { l with lost := none }
    | none => l

/-- The receiving side is rewritten, and an idle transmitter takes up what became available. -/
def State.withLink (f : Link → Link) (s : State) : State := { s with link := f s.link }.wake

/-- R170: the oldest full slot, and the slots without it. -/
def takeOldest : List LineSlot → Option (LineSlot × List LineSlot)
  | [] => none
  | x :: rest =>
    if x.full then some (x, rest)
    else (takeOldest rest).map fun p => (p.1, x :: p.2)

/-- R171: the refusal of a line that is marked. -/
def LineSlot.marked (x : LineSlot) : Option Answer :=
  if x.tooLong then some (refuse .long) else if x.malformed then some (refuse .form) else none

/-- R171: what a READY slot's line is: a request with its verb, or a refusal. -/
def LineSlot.check (x : LineSlot) : Except Answer (Verb × Instr) :=
  match x.marked with
  | some a => .error a
  | none => checkLine x.chars

/-- R170, R173: the verb of a refused line's reply. A line with a character among its first four that is not stored has no four
capital letters in front (log entry 51). -/
def LineSlot.verb (x : LineSlot) : Text := if x.badHead then ['-', '-', '-', '-'] else lineVerb x.chars

/-- R170: the line's first four characters are DOTS. -/
def LineSlot.isDots (x : LineSlot) : Bool := !x.badHead && x.chars.take 4 == Verb.text .dots

/-- R170: a line that the Link refuses: its refusal is placed, and it ends the DOTS stream unless its first four characters are
DOTS. -/
def State.refuseLine (x : LineSlot) (a : Answer) (s : State) : State :=
  let t := if x.isDots then s else s.endStream
  t.placeReply { verb := x.verb, answer := a }

/-- R168, R178: the OVER replies of a dispatched slot are owed and placed; an RSET or a WIPE discards them. -/
def State.oweOvers (n : Nat) (s : State) : State :=
  if s.link.discard then s
  else { s with link := { s.link with overOwed := s.link.overOwed + n } }.placeOvers

/-- R166, R178, R182: what follows the last character of a reply. -/
def State.afterReply (a : After) (s : State) : State :=
  match a with
  | .nothing => s
  | .baud rate => { s with link := { s.link with rate := rate } }
  | .rset => { s with link := { s.link with discard := false } }
  | .wipe => { s with wipeDue := true }

/-- What follows the last character of a reply. -/
def Reply.after (r : Reply) : After :=
  match r.answer with
  | .accept _ _ a => a
  | .refuse _ _ => .nothing

/-- R175: the transmitter finishes a line, and chooses the next. -/
def State.lineSent (s : State) : State :=
  match s.outbox.tx with
  | .idle => s
  | .notice _ => s.chooseLine
  | .reply =>
    match s.link.replies with
    | [] => s.chooseLine
    | r :: rest =>
      let t := { s with link := { s.link with replies := rest } }.afterReply r.after
      ({ t with link := t.link.placeOvers }).chooseLine

end Sys2Proof.Machine
end

