-- ==== Sys2Proof/Machine/Charging.lean ====
section
/-! DEFINITION. The requests of the Charge Unit (chapter 8): RATE, TIER, ACCT, ZERO and TAKE, and the working of the settlement
waiting list. -/

namespace Sys2Proof.Machine

/-! ## RATE (R150) -/

/-- R150: a rate class is written; `n` is its number less 1. -/
def State.setRate (n : Nat) (c : RateClass) (s : State) : State :=
  { s with store := { s.store with rates := s.store.rates.setIfInBounds n c } }

/-- R150: a rate as it is stored. -/
def clampRate (v : Int) : Nat := clampNat 0 65535 v

/-- R150: a class as every reply lists it: its number before its six fields (log entry 72). -/
def rateFields (n : Nat) (c : RateClass) : List RField :=
  [numF n, numF c.frame, numF c.reject, numF c.spoil, numF c.label, numF c.minimum, numF c.rush]

/-- R150: the Charge Unit's answer to a RATE write. -/
def ownRateWrite (cls frame reject spoil label minimum rush : Int) (s : State) : State × Answer :=
  if !inRange 1 8 cls then (s, refuseAt .range 1)
  else
    let c : RateClass :=
      { frame := clampRate frame
        reject := clampRate reject
        spoil := clampRate spoil
        label := clampRate label
        minimum := clampNat 0 999999 minimum
        rush := clampNat 0 1000 rush }
    (s.setRate (cls.toNat - 1) c,
      ok (rateFields cls.toNat c)
        (clampReport
          [(2, inRange 0 65535 frame), (3, inRange 0 65535 reject), (4, inRange 0 65535 spoil), (5, inRange 0 65535 label),
           (6, inRange 0 999999 minimum), (7, inRange 0 1000 rush)]))

/-- RATE class,frame,reject,spoil,label,minimum,rush (R150). -/
def execRateWrite (cls frame reject spoil label minimum rush : Int) (s : State) : Out :=
  request .rate (ownRateWrite cls frame reject spoil label minimum rush) s

/-- R150: the Charge Unit's answer to a RATE query. -/
def ownRateQuery (cls : Option Int) (s : State) : Answer :=
  match cls with
  | none => ok ((s.store.rates.toList.zipIdx 1).flatMap fun p => rateFields p.2 p.1)
  | some n => if !inRange 1 8 n then refuseAt .range 1 else ok (rateFields n.toNat (s.rateClass n.toNat))

/-- RATE class and RATE (R150). -/
def execRateQuery (cls : Option Int) (s : State) : Out := request .rate (asks (ownRateQuery cls)) s

/-! ## TIER (R151) -/

/-- R151: a tier entry with its figures clamped. -/
def tierOf (t : TierArg) : Tier :=
  { low := clampNat 0 65535 t.low, high := clampNat 0 65535 t.high, discount := clampNat 0 1000 t.discount }

/-- R151: the field numbers of the figures that were clamped, entry `i` being the next one, from 0. -/
def tierClamps : Nat → List TierArg → List (Nat × Bool)
  | _, [] => []
  | i, t :: rest =>
    (3 * i + 1, inRange 0 65535 t.low) :: (3 * i + 2, inRange 0 65535 t.high) ::
      (3 * i + 3, inRange 0 1000 t.discount) :: tierClamps (i + 1) rest

/-- R151: the tier table is replaced whole. -/
def State.setTiers (l : List Tier) (s : State) : State := { s with store := { s.store with tiers := l } }

/-- R151: the Charge Unit's answer to TIER with entries. -/
def ownTierWrite (entries : List TierArg) (s : State) : State × Answer :=
  if entries.isEmpty || 8 < entries.length then (s, refuse .form)
  else
    match entries.findIdx? fun t => (tierOf t).high < (tierOf t).low with
    | some i => (s, refuseAt .range (3 * i + 1))
    | none => (s.setTiers (entries.map tierOf), ok [] (clampReport (tierClamps 0 entries)))

/-- TIER low,high,discount[,…] (R151). -/
def execTierWrite (entries : List TierArg) (s : State) : Out := request .tier (ownTierWrite entries) s

/-- R151: the Charge Unit's answer to TIER CLEAR. -/
def ownTierClear (s : State) : State × Answer := (s.setTiers [], ok [])

/-- TIER CLEAR (R151). -/
def execTierClear (s : State) : Out := request .tier ownTierClear s

/-- R151: the present entries with their numbers. -/
def ownTierList (s : State) : Answer :=
  ok (s.store.tiers.zipIdx.flatMap fun p => [numF p.2, numF p.1.low, numF p.1.high, numF p.1.discount])

/-- TIER (R151). -/
def execTierList (s : State) : Out := request .tier (asks ownTierList) s

/-! ## ACCT (R152, R153) -/

/-- R153: a new account. -/
def newAccount (number : Nat) (name : Text) (cls : Nat) (allowance : Option Nat) (state : AcctState) : Account where
  number := number
  name := name
  cls := cls
  allowance := allowance
  charged := 0
  committed := 0
  period := 0
  state := state
  saturated := false

/-- R152: a new account takes its place in ascending order of account number. -/
def insertAccount (a : Account) (l : List Account) : List Account :=
  (l.filter fun x => x.number < a.number) ++ a :: l.filter fun x => a.number ≤ x.number

/-- The account table is rewritten. -/
def State.setAccounts (l : List Account) (s : State) : State := { s with store := { s.store with accounts := l } }

/-- R153: an allowance as it is stored. -/
def clampAllowance (v : Int) : Nat := clampNat 0 Config.maxMoney v

/-- R153: a write to an existing account. -/
def Account.rewrite (name : Text) (cls : Nat) (allowance : Option (Option Nat)) (state : Option AcctState) (a : Account) : Account :=
  { a with name := name, cls := cls, allowance := allowance.getD a.allowance, state := state.getD a.state }

/-- R153: a write that releases an account: its allowance changes, or it changes from CLOSED to OPEN. -/
def Account.releasedBy (b a : Account) : Bool := a.allowance != b.allowance || (a.state == .closed && b.state == .opened)

/-- R98: the release of an account; a selection follows in WAITING when at least one order returned to WAITING. -/
def State.release (account : Nat) (s : State) : State :=
  if s.releasesAny account then (s.releaseOrders account).selectIfWaiting else s

/-- R153: the checks of a write that name no record. -/
def checkAccount (account : Int) (name : Text) (cls : Int) (state : Option (Option AcctState)) : Option Answer :=
  if !inRange 1 9999 account then some (refuseAt .range 1)
  else if 24 < name.length then some (refuseAt .range 2)
  else if !inRange 1 8 cls then some (refuseAt .range 3)
  else if state == some none then some (refuseAt .range 5)
  else none

/-- R153: the clamped report of an allowance. -/
def allowanceReport (allowance : Option (Option Int)) : List Nat :=
  clampReport [(4, (allowance.join.map (inRange 0 Config.maxMoney)).getD true)]

/-- R153: an accepted write to an existing account, with its release. -/
def State.writeAccount (a b : Account) (s : State) : State :=
  let t := s.updateAccount a.number fun _ => b
  if b.releasedBy a then t.release a.number else t

/-- R153: the Charge Unit's answer to an ACCT write. -/
def ownAcctWrite (account : Int) (name : Text) (cls : Int) (allowance : Option (Option Int))
    (state : Option (Option AcctState)) (s : State) : State × Answer :=
  match checkAccount account name cls state with
  | some a => (s, a)
  | none =>
    let limit := allowance.map fun o => o.map clampAllowance
    match s.account account.toNat with
    | some a => (s.writeAccount a (a.rewrite name cls.toNat limit state.join), ok [] (allowanceReport allowance))
    | none =>
      if Config.maxAccounts ≤ s.store.accounts.length then (s, refuse .full)
      else
        (s.setAccounts (insertAccount (newAccount account.toNat name cls.toNat limit.join (state.join.getD .opened))
          s.store.accounts), ok [] (allowanceReport allowance))

/-- ACCT account,name,class[,allowance[,state]] (R153). -/
def execAcctWrite (account : Int) (name : Text) (cls : Int) (allowance : Option (Option Int))
    (state : Option (Option AcctState)) (s : State) : Out :=
  request .acct (ownAcctWrite account name cls allowance state) s

/-- R153: the orders in the book that name an account. -/
def Book.naming (account : Nat) (b : Book) : Nat := (b.orders.filter fun o => o.account == account).length

/-- R153: the fields of one account record. -/
def accountFields (b : Book) (a : Account) : List RField :=
  [numF a.number, .text a.name, numF a.cls, optF numF a.allowance, numF a.charged, numF a.committed, numF a.period,
   .word (acctStateWord a.state), yesNo a.saturated, numF (b.naming a.number)]

/-- R153: the Charge Unit's answer to an ACCT query. -/
def ownAcctQuery (account : Option Int) (s : State) : Answer :=
  match account with
  | none => ok (s.store.accounts.flatMap fun a => [numF a.number, .word (acctStateWord a.state)])
  | some n =>
    if !inRange 1 9999 n then refuseAt .range 1
    else
      match s.account n.toNat with
      | none => refuseAt .none 1
      | some a => ok (accountFields s.store.book a)

/-- ACCT account and ACCT (R153). -/
def execAcctQuery (account : Option Int) (s : State) : Out := request .acct (asks (ownAcctQuery account)) s

/-- R153: the Charge Unit's answer to ACCT account,REMOVE. -/
def ownAcctRemove (account : Int) (s : State) : State × Answer :=
  if !inRange 1 9999 account then (s, refuseAt .range 1)
  else
    match s.account account.toNat with
    | none => (s, refuseAt .none 1)
    | some a =>
      if s.store.book.naming a.number != 0 then (s, refuse .busy)
      else (s.setAccounts (s.store.accounts.filter fun x => x.number != a.number), ok [])

/-- ACCT account,REMOVE (R153). -/
def execAcctRemove (account : Int) (s : State) : Out := request .acct (ownAcctRemove account) s

/-! ## ZERO (R154) -/

/-- R154: a new period of an account. -/
def Account.newPeriod (a : Account) : Account := { a with charged := 0, period := 0, saturated := false }

/-- R154: the Charge Unit's answer to ZERO. -/
def ownZero (account : Int) (s : State) : State × Answer :=
  if !inRange 1 9999 account then (s, refuseAt .range 1)
  else
    match s.account account.toNat with
    | none => (s, refuse .none)
    | some a =>
      if a.committed != 0 then (s, refuse .busy)
      else ((s.updateAccount a.number Account.newPeriod).release a.number, ok [numF a.number, numF a.charged])

/-- ZERO account (R154). -/
def execZero (account : Int) (s : State) : Out := request .zero (ownZero account) s

/-! ## TAKE and the waiting list (R161 to R163) -/

/-- R161, R163: the ten fields of an entry. -/
def Entry.fields (e : Entry) : List RField :=
  [numF e.seq, .word (match e.detail with
    | some _ => ['I', 'T', 'E', 'M']
    | none => ['M', 'I', 'N', 'I', 'M', 'U', 'M']),
   numF e.account, numF e.order, optF (fun d => numF (ItemCharge.item d)) e.detail,
   optF (fun d => numF (ItemCharge.kept d)) e.detail, optF (fun d => numF (ItemCharge.rejected d)) e.detail,
   optF (fun d => numF (ItemCharge.spoiled d)) e.detail, optF (fun d => numF (ItemCharge.labels d)) e.detail, numF e.amount]

/-- R163: the oldest entries leave the journal. -/
def State.dropEntries (n : Nat) (s : State) : State :=
  { s with store := { s.store with journal := s.store.journal.drop n } }

/-- R163: the Charge Unit's answer to TAKE n. -/
def ownTake (n : Int) (s : State) : State × Answer :=
  if !inRange 1 8 n then (s, refuseAt .range 1)
  else
    let taken := s.store.journal.take n.toNat
    (if taken.isEmpty then s else (s.dropEntries taken.length).workList, ok (numF taken.length :: taken.flatMap Entry.fields))

/-- TAKE n (R163). -/
def execTake (n : Int) (s : State) : Out := request .take (ownTake n) s

/-- R163: the state of the journal. -/
def ownTakeState (s : State) : Answer :=
  ok [numF s.store.journal.length, optF (fun e => numF (Entry.seq e)) s.store.journal.head?, numF s.store.seq,
    numF s.waiting.length]

/-- TAKE (R163). -/
def execTakeState (s : State) : Out := request .take (asks ownTakeState) s

/-- WAITING_LIST_WORK: the waiting list is worked while the journal has room (R162). -/
def execWaitingListWork (s : State) : Out := whenLive State.workList s

end Sys2Proof.Machine
end

