-- ==== Sys2Proof/Machine/TransportOps.lean ====
section
/-! DEFINITION. The shared operations of the Film Transport Unit (chapter 2): count events and targets (R24 to R28), the
index check (R26), zones (R30), steps and the ramp feeder (R34, R35), the creation of frames (R10), and the advance with its
ends (R37 to R44) and the reports of its end to its requester (R16, R110, R116). -/

namespace Sys2Proof.Machine

/-! ## Targets (R27) -/

/-- R27: an entry is written armed when its value is above the present count. -/
def newTarget (value count : Int) : Target := { value := value, armed := value > count }

/-- R27: an entry fires at a count that rises to its value while it is armed. -/
def fires (t : Option Target) (count : Int) : Bool :=
  match t with
  | some x => x.armed && x.value == count
  | none => false

/-- R27: an entry after the count has risen to `count`: a fired entry is disarmed. -/
def Target.afterRise (count : Int) (t : Target) : Target := if t.value == count then { t with armed := false } else t

/-- R27: an entry after the count has fallen to `count`: an entry just above it is armed again. -/
def Target.afterFall (count : Int) (t : Target) : Target := if t.value == count + 1 then { t with armed := true } else t

/-- R27: a mark after the count has risen to `count`. -/
def Mark.afterRise (count : Int) (m : Mark) : Mark := if m.value == count then { m with armed := false } else m

/-- R27: a mark after the count has fallen to `count`. -/
def Mark.afterFall (count : Int) (m : Mark) : Mark := if m.value == count + 1 then { m with armed := true } else m

/-! ## The index check (R26) -/

/-- R26: the index check is put in STARTING, and its reference stays until the next index edge (log entry 74). -/
def IndexCheck.restart (i : IndexCheck) : IndexCheck := { i with state := .starting }

/-! ## Zones (R30) -/

/-- R30: an entry intersects a window. -/
def Zone.meets (low high : Int) (z : Zone) : Bool := z.low ≤ high && low ≤ z.high

/-- R29, R30: the present zone entries in entry order. -/
def Store.zoneEntries (st : Store) : List Zone := st.zone0.toList ++ st.zones

/-- R30: the kind of the entry that decides a window, if one does. -/
def Store.classify (st : Store) (low high : Int) : Option ZoneKind :=
  (st.zoneEntries.find? (Zone.meets low high)).map (·.kind)

/-! ## Steps and the ramp (R33 to R35) -/

/-- R35: an interval of the ramp table. -/
def Store.interval (st : Store) (i : Nat) : Nat := (st.ramp[i]?).getD 0

/-- R33: the coils that each phase index energises: A, AB, B, BC, C, CD, D and DA. -/
def coilsOf (phase : Nat) : Coils :=
  match phase with
  | 0 => { a := true, b := false, c := false, d := false }
  | 1 => { a := true, b := true, c := false, d := false }
  | 2 => { a := false, b := true, c := false, d := false }
  | 3 => { a := false, b := true, c := true, d := false }
  | 4 => { a := false, b := false, c := true, d := false }
  | 5 => { a := false, b := false, c := true, d := true }
  | 6 => { a := false, b := false, c := false, d := true }
  | _ => { a := true, b := false, c := false, d := true }

/-- R33: the pattern that the motor phase outputs PHA to PHD hold: that of the phase index, driven last. -/
def Transport.coils (t : Transport) : Coils := coilsOf t.phase

/-- R33: a step drives the staged pattern, and the pattern after it is staged. -/
def Transport.driveStep (t : Transport) : Transport := { t with phase := t.staged, staged := (t.staged + 1) % 8 }

/-- R35: where the ramp feeder moves, in a table of `n` entries. -/
def feederMove (n pos : Nat) (d : RampDir) : Nat :=
  match d with
  | .accel => min (pos + 1) (n - 1)
  | .decel => pos - 1

/-- R34: at an expiry the buffered interval becomes active, and the feeder writes the following one. -/
def Transport.feed (st : Store) (t : Transport) : Transport :=
  let p := feederMove st.ramp.length t.rampPos t.rampDir
  { t with active := t.buffered, rampPos := p, buffered := st.interval p }

/-- R35: the interval registers and the feeder at a start from rest. -/
def Transport.startRamp (st : Store) (armed : Bool) (t : Transport) : Transport :=
  if armed then
    { t with active := st.interval 0, buffered := st.interval 1, rampPos := 1, rampDir := .accel }
  else { t with active := st.interval 0, buffered := st.interval 0, rampPos := 0, rampDir := .decel }

/-! ## Creating frames (R5, R6, R10) -/

/-- R6: the roll ends instead of gaining its next frame. -/
def Roll.over (r : Roll) : Bool :=
  Config.maxRollFrames < r.frameCount + 1 ||
  (match r.length with
    | some n => n < r.frameCount + 1
    | none => false) ||
  r.tail == some 0

/-- R7: the destination of a roll's next frame. -/
def Roll.destination (cpf : Nat) (r : Roll) : Int := (r.base + r.frameCount * cpf : Nat)

/-- R10, R5: a roll that gains a frame. -/
def Roll.gain (r : Roll) : Roll := { r with frameCount := r.frameCount + 1, tail := r.tail.map (· - 1) }

/-- R9: a frame record as it is created. -/
def newFrame (roll number : Nat) (state : FrameState) (gate : Option Int) (cause : Option FrameCause) : Frame where
  roll := roll
  number := number
  state := state
  gateCount := gate
  cause := cause
  ref := none
  computed := none
  measured := none
  selection := none
  label := .none
  charged := false

/-- R10: the next frame of a roll is created; a noted frame raises its ZONE notice (R30). -/
def State.createFrame (r : Roll) (st : FrameState) (gate : Option Int) (cause : Option FrameCause) (noted : Bool)
    (s : State) : State :=
  let t := { s with
    store :=
      { s.store with
        frames := s.store.frames ++ [newFrame r.number (r.frameCount + 1) st gate cause]
        rolls := replaceRoll r.gain s.store.rolls } }
  if noted then t.raise (.zone r.number (r.frameCount + 1)) else t

/-- R10, R16, R111: a POSITIONED frame is created; the first of a THREADING roll makes the roll LOADED, and queued contexts
of another film are discarded. -/
def State.createPositioned (r : Roll) (count : Int) (noted : Bool) (s : State) : State :=
  let t := s.createFrame r .positioned (some count) none noted
  if r.state == .threading then (t.changeRoll r.gain .loaded).compareReload r.film else t

/-! ## The end of an advance -/

/-- 2.6: how an advance ends. -/
inductive AdvanceEnd where
  | positioned | ended | tableFull | jam | slip | aborted
  deriving DecidableEq, Repr

/-- R110, R116: the halt cause that a failed advance gives. -/
def AdvanceEnd.haltCause : AdvanceEnd → Option HaltCause
  | .positioned => none
  | .ended => some .rollEnd
  | .tableFull => some .tableFull
  | .jam => some .jam
  | .slip => some .slip
  | .aborted => none

/-- R16: the threading fault that a failed threading records. -/
def AdvanceEnd.threadFault : AdvanceEnd → Option ThreadFault
  | .positioned => none
  | .ended => none
  | .tableFull => some .tableFull
  | .jam => some .jam
  | .slip => some .slip
  | .aborted => none

/-- R41: an advance that is over: its SLOW and STOP entries are removed and the coils go to reduced current. -/
def Transport.endAdvance (t : Transport) : Transport :=
  { t with advance := none, slow := none, stop := none, ired := true }

/-- R41: the advance in flight is over. -/
def State.endAdvance (s : State) : State := { s with transport := s.transport.endAdvance }

/-- R110: the stand cycle takes the POSITIONED end of its advance. -/
def State.windingPositioned (s : State) : State :=
  let t := s.endCancelPending
  if t.cycle.pause then t.enterStopped
  else match t.active with
    | none => t.select
    | some _ => t.forwardAtGate

/-- R110: the stand cycle takes the end of its advance. A cycle that is no longer WINDING takes nothing. -/
def State.windingEnd (e : AdvanceEnd) (s : State) : State :=
  if s.cycle.state == .winding then
    match e with
    | .positioned => s.windingPositioned
    | _ =>
      match e.haltCause with
      | some c => s.endCancelPending.halt c
      | none => s
  else s

/-- R116: the end of a WIND advance. -/
def State.windEnd (e : AdvanceEnd) (s : State) : State :=
  match e with
  | .positioned => s.selectIfWaiting
  | _ =>
    match e.haltCause with
    | some c => s.raise (.halt c true)
    | none => s

/-- R16: the end of a threading. -/
def State.threadingEnd (e : AdvanceEnd) (s : State) : State :=
  match e with
  | .positioned => s.selectIfWaiting
  | _ =>
    match e.threadFault, s.openRoll with
    | some f, some r =>
      if r.state == .threading then
        (s.setRoll { r with fault := some f }).raise (.rollState r.number .threading)
      else s
    | _, _ => s

/-- The end of an advance is reported to its requester. -/
def State.reportAdvance (req : Requester) (e : AdvanceEnd) (s : State) : State :=
  match req with
  | .cycle => s.windingEnd e
  | .wind => s.windEnd e
  | .load => s.threadingEnd e

/-- R42: an advance fails with a cause, at once. One in whose stepping an ABRT has been taken ends ABORTED, and its last step is
not driven; one in whose stepping a STOP or a LIMIT has fired fails all the same, and the roll does not become ENDED (log entry
10). -/
def State.failAdvance (e : AdvanceEnd) (s : State) : State :=
  match s.transport.advance with
  | none => s
  | some a =>
    let e' := if a.phase == .stepping (some .abort) then .aborted else e
    (s.endAdvance).reportAdvance a.requester e'

/-- R6, R43: the roll becomes ENDED, and the advance ends with ENDED. -/
def State.endRoll (req : Requester) (r : Roll) (s : State) : State :=
  ((s.endAdvance).changeRoll r .ended).reportAdvance req .ended

/-- R43: a LIMIT or an aim ends the open roll. -/
def State.endOpenRoll (req : Requester) (s : State) : State :=
  match s.openRoll with
  | some r => s.endRoll req r
  | none => s.endAdvance

/-! ## Aiming and settling (R38 to R41) -/

/-- R40, R41: whether a final count lies within the gate tolerance of a destination. -/
def inGate (tol : Nat) (dest count : Int) : Bool := dest - tol ≤ count && count ≤ dest + tol

/-- R40: the last completed stop count takes the count of a settle's end. -/
def State.readStop (s : State) : State := { s with store := { s.store with lastStop := s.transport.count } }

/-- R40, R41: the end of the settle. The count is written as the last completed stop count and judged. The answer says
whether the frame was VOID (MISREG), so that the advance takes its next aim. -/
def State.judgeStop (req : Requester) (dest : Int) (noted : Bool) (s : State) : State × Bool :=
  let c := s.transport.count
  let s1 := s.readStop
  match s1.openRoll with
  | none => (s1.endAdvance, false)
  | some r =>
    if r.over then (s1.endRoll req r, false)
    else if s1.freeRecords == 0 then ((s1.endAdvance).reportAdvance req .tableFull, false)
    else if inGate s1.store.conf.gateTol dest c then
      (((s1.createPositioned r c noted).endAdvance).reportAdvance req .positioned, false)
    else (s1.createFrame r .void none (some .misreg) noted, true)

/-- R38 step 4: the SLOW and STOP entries of an aim. -/
def State.aimTargets (dest : Int) (s : State) : Transport :=
  { s.transport with
    slow := some (newTarget (dest - s.store.conf.slowDist) s.transport.count)
    stop := some (newTarget dest s.transport.count)
    ired := false }

/-- R38 step 4, R35: stepping begins toward a destination. -/
def State.beginStepping (req : Requester) (dest : Int) (noted : Bool) (s : State) : State :=
  let t := (s.aimTargets dest).startRamp s.store (dest - s.store.conf.slowDist > s.transport.count)
  { s with
    transport :=
      { t with
        advance := some
          { requester := req, phase := .stepping none, dest := dest, noted := noted, stallWatch := 0, counted := false } } }

/-- R38 step 4, R40: the count is already at or beyond the destination, and the settle begins without a step. The interval
registers, the ramp position and the direction stay as they were, as no stepping starts that would load them (log entry 53). -/
def State.beginSettle (req : Requester) (dest : Int) (noted : Bool) (s : State) : State :=
  { s with
    transport :=
      { s.aimTargets dest with
        advance := some
          { requester := req, phase := .settling s.store.conf.settle, dest := dest, noted := noted, stallWatch := 0,
            counted := false } } }

/-- R38: an advance takes its aim, passing over zone frames and continuing past missed stops of no settle time. Every turn
creates a frame or ends the advance, and a roll holds at most 1000 frames: `fuel` bounds the turns. -/
def takeAim : Nat → Requester → State → State
  | 0, _, s => s
  | fuel + 1, req, s =>
    match s.openRoll with
    | none => s.endAdvance
    | some r =>
      if r.over then s.endRoll req r
      else if s.freeRecords == 0 then (s.endAdvance).reportAdvance req .tableFull
      else
        let dest := r.destination s.cpf
        match s.store.classify dest (dest + s.cpf - 1) with
        | some .leader => takeAim fuel req (s.createFrame r .void none (some .zone) false)
        | some .splice => takeAim fuel req (s.createFrame r .void none (some .zone) false)
        | k =>
          let noted := k == some .note
          if s.transport.count < dest then s.beginStepping req dest noted
          else
            let t := s.beginSettle req dest noted
            if s.store.conf.settle == 0 then
              match t.judgeStop req dest noted with
              | (u, true) => takeAim fuel req u
              | (u, false) => u
            else t

/-- The turns that suffice for any roll: one for each frame a roll can still gain, and one to end. -/
def aimFuel : Nat := Config.maxRollFrames + 2

/-- R38: an advance takes its aim. -/
def State.aim (req : Requester) (s : State) : State := takeAim aimFuel req s

/-- R40, R41: the settle ends. -/
def State.settleEnd (a : Advance) (s : State) : State :=
  match s.judgeStop a.requester a.dest a.noted with
  | (t, true) => t.aim a.requester
  | (t, false) => t

/-- R37: the LIMIT entry of a declared length is written when the table holds none. -/
def State.rebuildLimit (r : Roll) (s : State) : State :=
  match r.length, s.transport.limit with
  | some n, none =>
    { s with
      transport := { s.transport with limit := some (newTarget ((r.base + n * s.cpf : Nat) : Int) s.transport.count) } }
  | _, _ => s

/-- R37: an advance is asked of the transport. A request that finds an advance in flight, no open roll, an ENDED roll or a
POSITIONED last frame starts nothing. -/
def State.startAdvance (req : Requester) (s : State) : State :=
  match s.transport.advance, s.openRoll with
  | none, some r =>
    if r.state == .ended || s.gateFrame.isSome then s
    else if !r.positionValid then s.reportAdvance req .jam
    else (s.rebuildLimit r).aim req
  | _, _ => s

/-- R110: the cycle enters WINDING and asks for an advance. -/
def State.enterWinding (s : State) : State := (s.withCycle fun y => { y with state := .winding }).startAdvance .cycle

/-- R107: going forward. -/
def State.forward (s : State) : State :=
  match s.active with
  | none => s
  | some (_, it) =>
    let t := s.fillManual it
    if !t.contexts.isEmpty && t.gateFrame.isNone then t.enterWinding else t.forwardAtGate

/-! ## Count events (R24, R25, R27, R39) -/

/-- R40, R43: a STOP or LIMIT that fires while stepping ends it at the expiry of the running interval. A LIMIT takes the place
of a STOP; neither takes the place of an ABRT (log entry 10). -/
def Advance.endStepping (e : StepEnd) (a : Advance) : Advance :=
  match a.phase with
  | .stepping none => { a with phase := .stepping (some e) }
  | .stepping (some .stop) => if e == .stop then a else { a with phase := .stepping (some e) }
  | .stepping (some _) => if e == .abort then { a with phase := .stepping (some .abort) } else a
  | .settling _ => a

/-- R39: a count event while stepping resets the stall watch. -/
def Advance.countSeen (a : Advance) : Advance :=
  match a.phase with
  | .stepping _ => { a with stallWatch := 0, counted := true }
  | .settling _ => a

/-- R27: the table after a rise of the count. -/
def Transport.rise (t : Transport) : Transport :=
  let c := t.count + 1
  { t with
    count := c
    slow := t.slow.map (Target.afterRise c)
    stop := t.stop.map (Target.afterRise c)
    limit := t.limit.map (Target.afterRise c)
    marks := t.marks.map (Mark.afterRise c)
    advance := t.advance.map fun a =>
      let a1 := a.countSeen
      let a2 := if fires t.stop c then a1.endStepping .stop else a1
      if fires t.limit c then a2.endStepping .limit else a2
    rampDir := if fires t.slow c && t.advance.isSome then .decel else t.rampDir }

/-- R27: the table after a fall of the count. -/
def Transport.fall (t : Transport) : Transport :=
  let c := t.count - 1
  { t with
    count := c
    slow := t.slow.map (Target.afterFall c)
    stop := t.stop.map (Target.afterFall c)
    limit := t.limit.map (Target.afterFall c)
    marks := t.marks.map (Mark.afterFall c)
    advance := t.advance.map Advance.countSeen }

/-- R27: the marks that fire at a count, in mark number order. -/
def Transport.firedMarks (t : Transport) (c : Int) : List Mark := t.marks.filter fun m => m.armed && m.value == c

/-- R27: each mark that fires raises a ROLL notice. -/
def raiseMarks (l : List Mark) (s : State) : State := l.foldl (fun t m => t.raise (.rollMark m.roll m.number)) s

/-- R43: a LIMIT that fires during settle abandons the settle and ends the roll. -/
def State.limitInSettle (s : State) : State :=
  match s.transport.advance with
  | some a =>
    match a.phase with
    | .settling _ => s.endOpenRoll a.requester
    | .stepping _ => s
  | none => s

/-- R24, R27: a count event that raises the count within its range. -/
def State.countUp (s : State) : State :=
  let c := s.transport.count + 1
  let marks := s.transport.firedMarks c
  let limit := fires s.transport.limit c
  let t := { s with transport := s.transport.rise }
  raiseMarks marks (if limit then t.limitInSettle else t)

/-- R24, R27: a count event that lowers the count within its range. -/
def State.countDown (s : State) : State := { s with transport := s.transport.fall }

/-- R25: the count becomes held: the open roll's position becomes invalid, and an advance in flight fails with JAM. -/
def State.holdCount (s : State) : State :=
  let t := { s with transport := { s.transport with held := true } }
  let u := match t.openRoll with
    | some r => t.setRoll { r with positionValid := false }
    | none => t
  u.failAdvance .jam

/-- R24, R25: a count event. -/
def State.countEvent (up : Bool) (s : State) : State :=
  if s.transport.held then s
  else if up then (if Config.countMax ≤ s.transport.count then s.holdCount else s.countUp)
  else if s.transport.count ≤ Config.countMin then s.holdCount
  else s.countDown

/-- R24: whether a change of the encoder lines is counted, and in which direction. In PULSEDIR a falling edge of ENCA that comes
with a change of ENCB takes its direction from ENCB's new level (log entry 54). -/
def encoderCounts (m : EncMode) (a b a' b' : Bool) : Option Bool :=
  match m with
  | .quad =>
    if a != a' && b == b' then some (a' != b')
    else if a == a' && b != b' then some (b' == a')
    else none
  | .pulsedir => if a && !a' then some (!b') else none
  | .count => if a && !a' then some true else none

/-! ## The step timer (R34, R39, R40, R43, R44) -/

/-- R39: an advance after a step that its stepping goes on after. -/
def Advance.afterStep (a : Advance) : Advance :=
  { a with stallWatch := if a.counted then a.stallWatch else a.stallWatch + 1, counted := false }

/-- R39: the stall watch has reached the stall limit. -/
def Advance.stalled (limit : Nat) (a : Advance) : Bool := limit ≤ a.stallWatch

/-- R40: stepping has ended at a STOP, and the settle begins; a settle time of 0 ends it at once. -/
def State.settleAfterStop (a : Advance) (s : State) : State :=
  let b := { a with phase := .settling s.store.conf.settle }
  let t := { s with transport := { s.transport with advance := some b } }
  if s.store.conf.settle == 0 then t.settleEnd b else t

/-- R34: the step timer expires during stepping. -/
def State.stepExpiry (a : Advance) (ending : Option StepEnd) (s : State) : State :=
  let driven := { s with transport := s.transport.driveStep }
  match ending with
  | none =>
    let b := a.afterStep
    let t := { s with
      transport := { (s.transport.driveStep).feed s.store with advance := some b } }
    if b.stalled s.store.conf.stall then t.failAdvance .jam else t
  | some .stop => driven.settleAfterStop a
  | some .limit => driven.endOpenRoll a.requester
  | some .abort => (driven.endAdvance).reportAdvance a.requester .aborted

/-- R44: ABRT and the advance in flight. -/
def State.abortAdvance (s : State) : State :=
  match s.transport.advance with
  | none => s
  | some a =>
    match a.phase with
    | .stepping _ => { s with transport := { s.transport with advance := some (a.endStepping .abort) } }
    | .settling _ => (s.endAdvance).reportAdvance a.requester .aborted

end Sys2Proof.Machine
end

