-- ==== Sys2Proof/Machine/ExposureOps.lean ====
section
/-! DEFINITION. The NORMAL outcome of an exposure and what the stand cycle makes of it (R87, R109, R116), what an ABRT does to
an exposure (R88) and to everything in flight (R113), the completion of a metering (R54, R108) and of a calibration (R58), and
the judgement of the watch windows (R62). -/

namespace Sys2Proof.Machine

/-! ## The NORMAL outcome -/

/-- R12: whether the captured plan of a context's item has a single step. -/
def State.singleStep (c : Context) (s : State) : Bool :=
  match s.item c.ref.order c.ref.item with
  | some it => (it.captured.map (·.length)) == some 1
  | none => false

/-- R11, R12: the gate frame becomes EXPOSED; a single-step frame is KEPT at once and counted. -/
def State.exposeGate (c : Context) (measured : Nat) (s : State) : State :=
  match s.gateFrame with
  | some f =>
    let single := s.singleStep c
    let t := s.setFrame (f.expose c measured single)
    if single then t.updateItem c.ref.order c.ref.item (Item.countDecision true) else t
  | none => s

/-- R109: the fill that a new set is given: a manual fill for a MANUAL item, else a stored fill. -/
def setFill (it : Item) : FillLight := if it.mode.source == .manual then .manual else .stored

/-- R109: the current set of an item begins anew with the next set. -/
def Item.nextSet (it : Item) : Item :=
  { it with
    setsDone := it.setsDone + 1
    currentSet := it.currentSet.map (· + 1)
    steps := it.steps.map fun l => l.map fun _ => .pending }

/-- R109: an item whose current set is complete. -/
def Item.setComplete (it : Item) : Bool :=
  match it.steps with
  | some l => l.all fun st => st == .done
  | none => false

/-- R109, R116: the set accounting of a NORMAL outcome, for an item that is still ACTIVE; `ask` says whether the next set's fill
is asked for. -/
def State.countNormal (r : ItemRef) (ask : Bool) (s : State) : State :=
  match s.item r.order r.item with
  | none => s
  | some it =>
    if it.state == .active && it.setComplete then
      if it.cancelPending then s.updateItem r.order r.item fun i => { i with setsDone := i.setsDone + 1 }
      else if it.setsDone + 1 < it.copies then
        let t := s.updateItem r.order r.item Item.nextSet
        if ask then t.fill (setFill it) else t
      else
        (s.updateItem r.order r.item fun i => { i with setsDone := i.setsDone + 1 }).endActive r.order it false
    else s

/-- R109, R116: the controller takes a NORMAL outcome. -/
def State.reportNormal (r : ItemRef) (s : State) : State :=
  if s.cycle.state == .exposing then (s.countNormal r true).enterWinding else s.countNormal r false

/-- R87: the outcome NORMAL. -/
def State.outcomeNormal (c : Context) (s : State) : State :=
  let t := (((s.exposeGate c s.shutter.ticks).setStep c.ref .done).clearMarker).shutterIdle (some s.shutter.ticks)
  (t.lookItem c.ref.order c.ref.item).reportNormal c.ref

/-! ## The end of a closing (R87) -/

/-- R87: the contact closes in CLOSING: the pending outcome is given. -/
def State.closingDone (pending : Option PendingOutcome) (s : State) : State :=
  match pending, s.shutter.held with
  | some .normal, some c => s.outcomeNormal c
  | some .lamp, some c => s.outcomeLamp c
  | _, _ => s.shutterIdle s.shutter.measured

/-- R87: the close timeout expires in CLOSING. -/
def State.closingLate (pending : Option PendingOutcome) (aborted : Bool) (s : State) : State :=
  match pending, s.shutter.held with
  | some _, some c => s.outcomeShutClose c (some s.shutter.ticks) aborted
  | _, _ => s.shutterIdle s.shutter.measured

/-- R86: a close command in OPEN, with the outcome that it leaves pending. -/
def State.startClosing (p : PendingOutcome) (s : State) : State :=
  let t := s.closeCommand
  { t with shutter := { t.shutter with phase := .closing (some p) false } }

/-- R86: the tick counter has reached the planned ticks of the context being exposed. -/
def State.planExpired (s : State) : Bool :=
  match s.shutter.held with
  | some c => c.planned ≤ s.shutter.ticks
  | none => false

/-- R86: the expiry of the planned ticks: the counter stands at them, and the close command is given with NORMAL pending. -/
def State.expirePlan (s : State) : State :=
  match s.shutter.held with
  | some c => { s with shutter := { s.shutter with ticks := max s.shutter.ticks c.planned } }.startClosing .normal
  | none => s

/-- R86, R87: one tick of 125 µs of the Shutter Timer: the counter rises by one in OPEN and in CLOSING, up to its top, and in OPEN
the planned ticks expire when it reaches them. -/
def State.shutterTick (s : State) : State :=
  let t := { s with shutter := { s.shutter with ticks := min Config.maxTicks (s.shutter.ticks + 1) } }
  match s.shutter.phase with
  | .opened => if t.planExpired then t.expirePlan else t
  | .closing _ _ => t
  | .idle => s
  | .opening => s

/-! ## ABRT (R44, R56, R88, R113) -/

/-- R88: ABRT and an exposure in flight. -/
def State.abortExposure (s : State) : State :=
  match s.shutter.phase with
  | .idle => s
  | .opening =>
    match s.shutter.held with
    | some c => (s.setStep c.ref .pending).shutterIdle s.shutter.measured
    | none => s.shutterIdle s.shutter.measured
  | .opened =>
    let t := match s.shutter.held with
      | some c => (s.spoilGate .abort c (some s.shutter.ticks)).setStep c.ref .pending
      | none => s
    let u := t.clearMarker.closeCommand
    { u with
      shutter :=
        { u.shutter with phase := .closing none false, held := none, measured := some s.shutter.ticks } }
  | .closing p _ =>
    if p.isSome then { s with shutter := { s.shutter with phase := .closing p true } } else s

/-- R113: ABRT stops everything in flight, and the cycle enters STOPPED. It switches both lamps off in every state, also a lamp
lit by LITE in STOPPED with nothing in flight (log entry 56). -/
def State.abortAll (s : State) : State :=
  ((s.abortAdvance.withdrawMetering.abortExposure.discardQueue).endCancelPending).enterStopped

/-! ## Readings (R49, R54, R58, R62) -/

/-- R58: the candidate gain of a calibration. -/
def candidateGain (reference average offset : Nat) : Nat := reference * 16384 / max 1 (average - offset)

/-- R58: a candidate that is in range is stored. -/
def gainOk (g : Nat) : Bool := 8192 ≤ g && g ≤ 32767

/-- R54: a waiting metering begins. -/
def Metering.begin (m : Metering) : Metering := { m with begun := true }

/-- R58: the completion of a calibration by its eighth reading. -/
def State.completeCalibration (c : Calibration) (sum : Nat) (s : State) : State :=
  let average := sum / 8
  let g := candidateGain c.reference average (s.offsetOf c.channel)
  let good := gainOk g
  let gain := if good then g else s.store.gains[c.channel]
  ({ s with
    store := { s.store with gains := s.store.gains.set c.channel gain }
    meter :=
      { s.meter with
        calibration := none
        records := s.meter.records.set c.channel
          (some { ok := good, reference := c.reference, average := average, candidate := g })
        metering := s.meter.metering.map Metering.begin } }).raise (.meter c.channel.val good gain)

/-- R49, R58: a completed reading of a channel is offered to the calibration. -/
def State.offerCalibration (ch : Fin 4) (r : Nat) (s : State) : State :=
  match s.meter.calibration with
  | some c =>
    if c.channel == ch then
      if 8 ≤ c.taken + 1 then s.completeCalibration c (c.sum + r)
      else
        { s with meter := { s.meter with calibration := some { c with sum := c.sum + r, taken := c.taken + 1 } } }
    else s
  | none => s

/-- R54, R108: a metering completes: the fill is asked and the cycle goes forward, or stops for a pending pause. -/
def State.completeMetering (m : Metering) (sum : Nat) (s : State) : State :=
  let averaged := sum / m.samples
  let t := (s.withdrawMetering).fill (.metering averaged (s.corrected m.channel averaged))
  if t.cycle.pause then t.enterStopped else t.forward

/-- R54: a completed reading of a channel is offered to a metering that had begun before it; `was` is the metering before the
reading was offered to the calibration (R49). -/
def State.offerMetering (was : Option Metering) (ch : Fin 4) (r : Nat) (s : State) : State :=
  match was, s.meter.metering with
  | some w, some m =>
    if w.begun && m.channel == ch then
      if m.samples ≤ m.taken + 1 then s.completeMetering m (m.sum + r)
      else
        { s with meter := { s.meter with metering := some { m with sum := m.sum + r, taken := m.taken + 1 } } }
    else s
  | _, _ => s

/-- R61: a window's mask includes a channel. -/
def Window.names (ch : Fin 4) (w : Window) : Bool := w.mask / 2 ^ ch.val % 2 == 1

/-- R62: a corrected reading of a channel fails a window. -/
def Window.fails (ch : Fin 4) (v : Nat) (w : Window) : Bool := w.names ch && (v < w.low || w.high < v)

/-- R62: a reading that fails one or more live windows is a trip: it is recorded, the live span ends, and an exposure in OPEN is
cut short. -/
def State.judgeWindows (ch : Fin 4) (r : Nat) (s : State) : State :=
  let v := s.corrected ch r
  if s.meter.live && s.store.windows.any (Window.fails ch v) then
    let trips := (s.meter.trips.zip s.store.windows).map fun p =>
      if p.2.fails ch v then some { channel := ch, value := v } else p.1
    let t := { s with meter := { s.meter with live := false, trips := trips } }
    if s.shutter.phase == .opened then t.startClosing .lamp else t
  else s

/-- R49: the converter's next turn. -/
def nextTurn (ch : Fin 4) : Fin 4 := ch + 1

/-- R49: a reading of the channel whose turn it is completes. -/
def State.readingDone (r : Nat) (s : State) : State :=
  let ch := s.meter.turn
  let t := { s with meter := { s.meter with latest := s.meter.latest.set ch (some r), turn := nextTurn ch } }
  ((t.offerCalibration ch r).offerMetering s.meter.metering ch r).judgeWindows ch r

end Sys2Proof.Machine
end

