-- ==== Sys2Proof/Machine/Exposing.lean ====
section
/-! DEFINITION. The requests of the Exposure Calculator (chapter 4): FILM, PLAN, TRIM, CTXQ and CALC, and the events of the
Shutter Timer: the contact, the open and close timeouts, and the expiry of the planned ticks. -/

namespace Sys2Proof.Machine

/-! ## FILM (R66, R67) -/

/-- R66: a film record is written; `n` is its id less 1. -/
def State.setFilm (n : Nat) (r : FilmRecord) (s : State) : State :=
  { s with store := { s.store with films := s.store.films.setIfInBounds n (some r) } }

/-- R67: the reciprocity list with its figures clamped. -/
def clampRecip (l : List (Int × Int)) : List RecipStep :=
  l.map fun p => { threshold := clampNat 0 191 p.1, extra := clampNat 1 48 p.2 }

/-- R67: the first step, counted from 0, whose threshold is not above the threshold before it. -/
def descent : Nat → List RecipStep → Option Nat
  | _, [] => none
  | _, [_] => none
  | n, a :: b :: rest => if b.threshold ≤ a.threshold then some (n + 1) else descent (n + 1) (b :: rest)

/-- R67: the field numbers of the reciprocity figures that were clamped, field `n` being the next one. -/
def recipClamps : Nat → List (Int × Int) → List (Nat × Bool)
  | _, [] => []
  | n, p :: rest => (n, inRange 0 191 p.1) :: (n + 1, inRange 1 48 p.2) :: recipClamps (n + 2) rest

/-- R66, R67: a film record as it is listed. -/
def FilmRecord.fields (r : FilmRecord) : List RField :=
  [.text r.name, .text r.code, numF r.k] ++ r.recip.flatMap fun x => [numF x.threshold, numF x.extra]

/-- R67: the Exposure Calculator's answer to a FILM write. -/
def ownFilmWrite (id : Int) (name code : Text) (k : Int) (recip : List (Int × Int)) (s : State) : State × Answer :=
  if 4 < recip.length then (s, refuse .form)
  else if !inRange 1 8 id then (s, refuseAt .range 1)
  else if 16 < name.length then (s, refuseAt .range 2)
  else if 4 < code.length then (s, refuseAt .range 3)
  else
    match descent 0 (clampRecip recip) with
    | some i => (s, refuseAt .range (5 + 2 * i))
    | none =>
      let r : FilmRecord := { name := name, code := code, k := clampNat 0 383 k, recip := clampRecip recip }
      (s.setFilm (id.toNat - 1) r, ok (.num id :: r.fields) (clampReport ((4, inRange 0 383 k) :: recipClamps 5 recip)))

/-- FILM id,name,code,K[,threshold,extra …] (R67). -/
def execFilmWrite (id : Int) (name code : Text) (k : Int) (recip : List (Int × Int)) (s : State) : Out :=
  request .film (ownFilmWrite id name code k recip) s

/-- R67: the Exposure Calculator's answer to a FILM query: FILM id gives the record alone, as R66 lists it.
An id outside 1..8 is refused RANGE, field 1, as in the write (log entry 69). -/
def ownFilmQuery (id : Option Int) (s : State) : Answer :=
  match id with
  | none =>
    ok ((s.store.films.toList.zipIdx 1).flatMap fun p =>
      match p.1 with
      | some r => [numF p.2, .text r.name]
      | none => [])
  | some n =>
    if !inRange 1 8 n then refuseAt .range 1
    else
      match s.film n.toNat with
      | none => refuseAt .none 1
      | some r => ok r.fields

/-- FILM id and FILM (R67). -/
def execFilmQuery (id : Option Int) (s : State) : Out := request .film (asks (ownFilmQuery id)) s

/-! ## PLAN (R68) -/

/-- R68: a bracket plan is written; `n` is its id less 1. -/
def State.setPlan (n : Nat) (l : List Int) (s : State) : State :=
  { s with store := { s.store with plans := s.store.plans.setIfInBounds n (some l) } }

/-- R68: the first offset, counted from 0, that equals an earlier one. -/
def repeated : List Int → List Int → Nat → Option Nat
  | _, [], _ => none
  | seen, v :: rest, n => if seen.contains v then some n else repeated (v :: seen) rest (n + 1)

/-- R68: the field numbers of the offsets that were clamped, field `n` being the next one. -/
def planClamps : Nat → List Int → List (Nat × Bool)
  | _, [] => []
  | n, v :: rest => (n, inRange (-36) 36 v) :: planClamps (n + 1) rest

/-- R68: the Exposure Calculator's answer to a PLAN write. -/
def ownPlanWrite (id : Int) (offsets : List Int) (s : State) : State × Answer :=
  if offsets.isEmpty || 7 < offsets.length then (s, refuse .form)
  else if !inRange 0 7 id then (s, refuseAt .range 1)
  else if id == 0 then (s, refuseAt .state 1)
  else
    let l := offsets.map (clampInt (-36) 36)
    match repeated [] l 0 with
    | some i => (s, refuseAt .dup (i + 2))
    | none => (s.setPlan (id.toNat - 1) l, ok (.num id :: l.map .num) (clampReport (planClamps 2 offsets)))

/-- PLAN id,offset[,…] (R68). -/
def execPlanWrite (id : Int) (offsets : List Int) (s : State) : Out := request .plan (ownPlanWrite id offsets) s

/-- R68: the Exposure Calculator's answer to a PLAN query. An id outside 0..7 is refused RANGE, field 1, as in the write (log
entry 69). -/
def ownPlanQuery (id : Option Int) (s : State) : Answer :=
  match id with
  | none =>
    ok ((List.range 8).flatMap fun n =>
      match s.plan n with
      | some l => numF n :: l.map .num
      | none => [])
  | some n =>
    if !inRange 0 7 n then refuseAt .range 1
    else
      match s.plan n.toNat with
      | none => refuseAt .none 1
      | some l => ok (l.map .num)

/-- PLAN id and PLAN (R68). -/
def execPlanQuery (id : Option Int) (s : State) : Out := request .plan (asks (ownPlanQuery id)) s

/-! ## TRIM (R69) -/

/-- R69: a source trim. -/
def Store.trim (l : Light) (st : Store) : Int :=
  match l with
  | .copy => st.copyTrim
  | .stage => st.stageTrim

/-- R69: a source trim is written. -/
def State.setTrim (l : Light) (v : Int) (s : State) : State :=
  match l with
  | .copy => { s with store := { s.store with copyTrim := v } }
  | .stage => { s with store := { s.store with stageTrim := v } }

/-- R69: the Exposure Calculator's answer to a TRIM write. -/
def ownTrimWrite (source : Option Light) (value : Int) (s : State) : State × Answer :=
  match source with
  | none => (s, refuseAt .range 1)
  | some l =>
    let v := clampInt (-36) 36 value
    (s.setTrim l v, ok [.word (lightWord l), .num v] (clampReport [(2, inRange (-36) 36 value)]))

/-- TRIM source,value (R69). -/
def execTrimWrite (source : Option Light) (value : Int) (s : State) : Out := request .trim (ownTrimWrite source value) s

/-- R69: the Exposure Calculator's answer to a TRIM query. -/
def ownTrimQuery (source : Option (Option Light)) (s : State) : Answer :=
  match source with
  | none => ok [.num s.store.copyTrim, .num s.store.stageTrim]
  | some none => refuseAt .range 1
  | some (some l) => ok [.num (s.store.trim l)]

/-- TRIM source and TRIM (R69). -/
def execTrimQuery (source : Option (Option Light)) (s : State) : Out := request .trim (asks (ownTrimQuery source)) s

/-! ## CTXQ (R81) -/

/-- R81: a context as it is listed. -/
def Context.fields (c : Context) : List RField :=
  [.dotted [c.ref.order, c.ref.item, c.ref.set, c.ref.step], .num c.ref.offset, numF c.logT, numF c.planned,
   flagsField c.flags, optF numF c.light, .word (sourceWord c.source), numF c.film]

/-- R81: the context queue, after the context held by the Shutter Timer, which is marked with the exposure phase: the phase's
word is a field in front of that context (log entry 57). -/
def ownCtxq (s : State) : Answer :=
  ok ((match s.shutter.held with
    | some c => .word s.shutter.phase.word :: c.fields
    | none => []) ++ s.contexts.flatMap Context.fields)

/-- CTXQ (R81). -/
def execCtxq (s : State) : Out := request .ctxq (asks ownCtxq) s

/-! ## CALC (R82) -/

/-- R82: stages 1 to 3 for a CALC. -/
def State.calcBase (rec : FilmRecord) (mode : Source) (value filter : Int) (s : State) : FillBase :=
  match mode with
  | .manual => { t0 := clampInt 0 191 value, flags := manualFlags, light := none }
  | .copy =>
    let l := clampNat 0 65535 value
    { t0 := baseLog rec.k l (clampInt (-24) 48 filter) s.store.copyTrim, flags := lightFlags l false, light := some l }
  | .stage =>
    let l := clampNat 0 65535 value
    { t0 := baseLog rec.k l (clampInt (-24) 48 filter) s.store.stageTrim, flags := lightFlags l false, light := some l }

/-- R82: the fields of a CALC that were clamped: a MANUAL item's filter is ignored. -/
def calcClamps (mode : Source) (value filter : Int) : List (Nat × Bool) :=
  match mode with
  | .manual => [(3, inRange 0 191 value)]
  | .copy => [(3, inRange 0 65535 value), (4, inRange (-24) 48 filter)]
  | .stage => [(3, inRange 0 65535 value), (4, inRange (-24) 48 filter)]

/-- R82: one offset of a CALC reply. -/
def calcStep (b : FillBase) (rec : FilmRecord) (offset : Int) : List RField :=
  let r := computeStep b.t0 rec.recip b.flags offset
  [.num offset, numF r.logT, numF r.planned, flagsField r.flags]

/-- R82: the Exposure Calculator's answer to CALC. -/
def ownCalc (film : Int) (mode : Option Source) (value filter plan : Int) (s : State) : Answer :=
  if !inRange 1 8 film then refuseAt .range 1
  else
    match s.film film.toNat with
    | none => refuseAt .none 1
    | some rec =>
      match mode with
      | none => refuseAt .range 2
      | some m =>
        if !inRange 0 7 plan then refuseAt .range 5
        else
          match s.plan plan.toNat with
          | none => refuseAt .none 5
          | some l =>
            let b := s.calcBase rec m value filter
            ok (.num b.t0 :: l.flatMap (calcStep b rec)) (clampReport (calcClamps m value filter))

/-- CALC film,mode,value,filter,plan (R82). -/
def execCalc (film : Int) (mode : Option Source) (value filter plan : Int) (s : State) : Out :=
  request .calc (asks (ownCalc film mode value filter plan)) s

/-! ## The shutter's events (R83, R85 to R87) -/

/-- R85: the contact opens in OPENING: the counter starts, the windows go live and the exposing marker is set. -/
def State.openShutter (s : State) : State :=
  { s with
    store := { s.store with marker := s.shutter.held }
    meter := { s.meter with live := true }
    shutter := { s.shutter with phase := .opened, ticks := 0, timer := none } }

/-- R83, R85: a contact-open event. -/
def State.contactOpens (s : State) : State :=
  if s.shutter.contactOpen then s
  else
    let t := { s with shutter := { s.shutter with contactOpen := true } }
    if s.shutter.phase == .opening then t.openShutter else t

/-- CONTACT_OPEN: SCONT has held high for 2 ticks (R85). -/
def execContactOpen (s : State) : Out := whenLiveLine (fun l => { l with scontOpen := true }) State.contactOpens s

/-- R86: the contact closes in OPEN before the expiry: the close command, and the outcome NORMAL at once. -/
def State.earlyClose (s : State) : State :=
  match s.shutter.held with
  | some c => s.closeCommand.outcomeNormal c
  | none => s

/-- R83, R86, R87: a contact-closed event. -/
def State.contactCloses (s : State) : State :=
  if s.shutter.contactOpen then
    let t := { s with shutter := { s.shutter with contactOpen := false } }
    match s.shutter.phase with
    | .opened => t.earlyClose
    | .closing p _ => t.closingDone p
    | .idle => t
    | .opening => t
  else s

/-- CONTACT_CLOSED: SCONT has held low for 2 ticks (R87). -/
def execContactClosed (s : State) : Out := whenLiveLine (fun l => { l with scontOpen := false }) State.contactCloses s

/-- R85: the open timeout expires. -/
def State.openTimeout (s : State) : State :=
  match s.shutter.phase, s.shutter.held with
  | .opening, some c => s.outcomeShutOpen c
  | _, _ => s

/-- OPEN_TIMEOUT (R85). -/
def execOpenTimeout (s : State) : Out := whenLive State.openTimeout s

/-- PLANNED_TICKS_EXPIRY: the tick counter reaches the planned ticks (R86). -/
def execPlannedTicksExpiry (s : State) : Out :=
  whenLive (fun t => if t.shutter.phase == .opened then t.expirePlan else t) s

/-- R87: the close timeout expires. -/
def State.closeTimeout (s : State) : State :=
  match s.shutter.phase with
  | .closing p aborted => s.closingLate p aborted
  | .idle => s
  | .opening => s
  | .opened => s

/-- CLOSE_TIMEOUT (R87). -/
def execCloseTimeout (s : State) : Out := whenLive State.closeTimeout s

end Sys2Proof.Machine
end

