-- ==== Sys2Proof/Machine/Film.lean ====
section
/-! DEFINITION. The requests and events of Film Transport (chapter 2): MARK, ZONE, RAMP, WIND and CONF, the encoder, the index
edge, the film-end switch, the step timer and the settle timer. CONF sets the stored fields of every block (R177). -/

namespace Sys2Proof.Machine

/-! ## MARK (R28) -/

/-- A count brought into the range of the sprocket count (R25). -/
def clampCount (v : Int) : Int := clampInt Config.countMin Config.countMax v

/-- A count lies in the range of the sprocket count (R25). -/
def countInRange (v : Int) : Bool := inRange Config.countMin Config.countMax v

/-- R28: a mark takes its place in mark number order, replacing a mark of its number. -/
def insertMark (m : Mark) (l : List Mark) : List Mark :=
  (l.filter fun x => x.number < m.number) ++ m :: l.filter fun x => m.number < x.number

/-- A or D for armed or disarmed (R28). -/
def armedField (armed : Bool) : RField := .word (if armed then ['A'] else ['D'])

/-- The marks of the target table are rewritten. -/
def State.setMarks (l : List Mark) (s : State) : State := { s with transport := { s.transport with marks := l } }

/-- R28: the Sprocket Counter's answer to a registration. -/
def ownMarkRegister (n count : Int) (s : State) : State × Answer :=
  if !inRange 1 4 n then (s, refuseAt .range 1)
  else
    match s.openRoll with
    | none => (s, refuse .none)
    | some r =>
      if s.transport.advance.isSome then (s, refuse .busy)
      else
        let t := newTarget (clampCount count) s.transport.count
        (s.setMarks (insertMark { number := n.toNat, roll := r.number, value := t.value, armed := t.armed } s.transport.marks),
          ok [.num n, .num t.value, armedField t.armed] (clampReport [(2, countInRange count)]))

/-- MARK n,count (R28). -/
def execMarkRegister (n count : Int) (s : State) : Out := request .mark (ownMarkRegister n count) s

/-- R28: the Sprocket Counter's answer to a removal. -/
def ownMarkRemove (n : Int) (s : State) : State × Answer :=
  if !inRange 1 4 n then (s, refuseAt .range 1)
  else if s.transport.advance.isSome then (s, refuse .busy)
  else (s.setMarks (s.transport.marks.filter fun m => m.number != n.toNat), ok [])

/-- MARK n (R28). -/
def execMarkRemove (n : Int) (s : State) : Out := request .mark (ownMarkRemove n) s

/-- R28: the marks present. -/
def ownMarkList (s : State) : Answer :=
  ok (s.transport.marks.flatMap fun m => [numF m.number, numF m.roll, .num m.value, armedField m.armed])

/-- MARK (R28). -/
def execMarkList (s : State) : Out := request .mark (asks ownMarkList) s

/-! ## ZONE (R29, R31) -/

/-- R31: one entry of a ZONE request with its counts clamped; none for a kind that is no kind. -/
def zoneOf (z : ZoneArg) : Option Zone :=
  z.kind.map fun k => { kind := k, low := clampCount z.low, high := clampCount z.high }

/-- R31: the field numbers of the counts of the entries that were clamped, entry `i` being the next one, from 0. -/
def zoneClamps : Nat → List ZoneArg → List (Nat × Bool)
  | _, [] => []
  | i, z :: rest => (3 * i + 2, countInRange z.low) :: (3 * i + 3, countInRange z.high) :: zoneClamps (i + 1) rest

/-- R31: the zone table's entries 1..7 are rewritten. -/
def State.setZones (l : List Zone) (s : State) : State := { s with store := { s.store with zones := l } }

/-- R31: the Sprocket Counter's answer to ZONE with entries. -/
def ownZoneWrite (entries : List ZoneArg) (s : State) : State × Answer :=
  if entries.isEmpty || 7 < entries.length then (s, refuse .form)
  else
    match entries.findIdx? fun z => z.kind.isNone with
    | some i => (s, refuseAt .range (3 * i + 1))
    | none =>
      match entries.findIdx? fun z => clampCount z.low > clampCount z.high with
      | some i => (s, refuseAt .range (3 * i + 2))
      | none =>
        if s.openRoll.isNone then (s, refuse .none)
        else if s.transport.advance.isSome then (s, refuse .busy)
        else
          (s.setZones (entries.filterMap zoneOf), ok [numF entries.length] (clampReport (zoneClamps 0 entries)))

/-- ZONE kind,low,high[,…] (R31). -/
def execZoneWrite (entries : List ZoneArg) (s : State) : Out := request .zone (ownZoneWrite entries) s

/-- R31: the Sprocket Counter's answer to ZONE CLEAR. -/
def ownZoneClear (s : State) : State × Answer :=
  if s.openRoll.isNone then (s, refuse .none)
  else if s.transport.advance.isSome then (s, refuse .busy)
  else (s.setZones [], ok [numF 0])

/-- ZONE CLEAR (R31). -/
def execZoneClear (s : State) : Out := request .zone ownZoneClear s

/-- R31: one entry of the listing. -/
def zoneFields (n : Nat) (z : Zone) : List RField := [numF n, .word (zoneKindWord z.kind), .num z.low, .num z.high]

/-- R31: the present entries with their numbers. -/
def ownZoneList (s : State) : Answer :=
  ok ((s.store.zone0.toList.flatMap (zoneFields 0)) ++ (s.store.zones.zipIdx 1).flatMap fun p => zoneFields p.2 p.1)

/-- ZONE (R31). -/
def execZoneList (s : State) : Out := request .zone (asks ownZoneList) s

/-! ## RAMP (R36) -/

/-- R36: the entries that the staged table holds for a RAMP of a length and a first index: none when the RAMP does not
continue it. A first index of 0 begins anew. -/
def Transport.stagedFor (length first : Nat) (t : Transport) : Option (List Nat) :=
  if first == 0 then some []
  else
    match t.stagedRamp with
    | some r => if r.length == length && r.intervals.length == first then some r.intervals else none
    | none => none

/-- R36: the field numbers of the intervals that were clamped, field `n` being the next one. -/
def rampClamps : Nat → List Int → List (Nat × Bool)
  | _, [] => []
  | n, v :: rest => (n, inRange 50 16383 v) :: rampClamps (n + 1) rest

/-- R36: a staged table that is complete becomes the ramp table, and one that is not stands staged. -/
def State.stageRamp (length : Nat) (l : List Nat) (s : State) : State :=
  if l.length == length then
    { s with store := { s.store with ramp := l }, transport := { s.transport with stagedRamp := none } }
  else { s with transport := { s.transport with stagedRamp := some { length := length, intervals := l } } }

/-- R36: the Step Generator's answer to RAMP with intervals. -/
def ownRampWrite (length first : Int) (intervals : List Int) (s : State) : State × Answer :=
  if intervals.isEmpty || 22 < intervals.length then (s, refuse .form)
  else if !inRange 2 32 length then (s, refuseAt .range 1)
  else if !inRange 0 (length - 1) first || first + intervals.length > length then (s, refuseAt .range 2)
  else if s.transport.advance.isSome then (s, refuse .busy)
  else
    match s.transport.stagedFor length.toNat first.toNat with
    | none => (s, refuseAt .state 2)
    | some l =>
      let l' := l ++ intervals.map (clampNat 50 16383)
      (s.stageRamp length.toNat l',
        ok [if l'.length == length.toNat then .word ['D', 'O', 'N', 'E'] else numF l'.length]
          (clampReport (rampClamps 3 intervals)))

/-- RAMP length,first,interval[,…] (R36). -/
def execRampWrite (length first : Int) (intervals : List Int) (s : State) : Out :=
  request .ramp (ownRampWrite length first intervals) s

/-- R36: the ramp table's length and up to 16 entries. It is answered during an advance too: the BUSY that R45 gives RAMP is taken
as the write's (log entry 75). -/
def ownRampList (first : Int) (s : State) : Answer :=
  if !inRange 0 ((s.store.ramp.length : Int) - 1) first then refuse .range
  else ok (numF s.store.ramp.length :: ((s.store.ramp.drop first.toNat).take 16).map numF)

/-- RAMP first (R36). -/
def execRampList (first : Int) (s : State) : Out := request .ramp (asks (ownRampList first)) s

/-! ## WIND (R46) -/

/-- R46: the cycle states in which WIND is taken. -/
def CycleState.windable : CycleState → Bool
  | .stopped => true
  | .waiting _ => true
  | .place => false
  | .warmup => false
  | .metering => false
  | .exposing => false
  | .winding => false
  | .halted _ _ => false

/-- R46: the transport's answer to WIND. -/
def ownWind (s : State) : State × Answer :=
  if !s.cycle.state.windable then (s, refuse .busy)
  else if s.shutter.phase != .idle then (s, refuse .busy)
  else
    match s.openRoll with
    | none => (s, refuse .none)
    | some r =>
      if s.transport.advance.isSome then (s, refuse .busy)
      else if r.state != .loaded then (s, refuse .state)
      else ((s.voidGate .wind).startAdvance .wind, ok [])

/-- WIND (R46). -/
def execWind (s : State) : Out := request .wind ownWind s

/-! ## CONF (R47, R55, R90, R106, R166, R177) -/

/-- The stored configuration is rewritten. -/
def State.setConf (f : Conf → Conf) (s : State) : State := { s with store := { s.store with conf := f s.store.conf } }

/-- R177: the value of a numeric configuration field. -/
def Conf.get (f : NumField) (c : Conf) : Nat :=
  match f with
  | .leader => c.leader
  | .tail => c.tail
  | .slipTol => c.slipTol
  | .gateTol => c.gateTol
  | .slowDist => c.slowDist
  | .settle => c.settle
  | .stall => c.stall
  | .samples => c.samples
  | .openTo => c.openTo
  | .closeTo => c.closeTo
  | .warmup => c.warmup
  | .baud => c.baud

/-- R177: a numeric configuration field is written. -/
def Conf.set (f : NumField) (v : Nat) (c : Conf) : Conf :=
  match f with
  | .leader => { c with leader := v }
  | .tail => { c with tail := v }
  | .slipTol => { c with slipTol := v }
  | .gateTol => { c with gateTol := v }
  | .slowDist => { c with slowDist := v }
  | .settle => { c with settle := v }
  | .stall => { c with stall := v }
  | .samples => { c with samples := v }
  | .openTo => { c with openTo := v }
  | .closeTo => { c with closeTo := v }
  | .warmup => { c with warmup := v }
  | .baud => { c with baud := v }

/-- R47, R55, R90, R106: the range of a clamped configuration field in an encoder mode. BAUD is no clamped field. -/
def confRange (m : EncMode) : NumField → Nat × Nat
  | .leader => (0, 30)
  | .tail => (0, 12)
  | .slipTol => (0, cpfOf m / 2)
  | .gateTol => (0, cpfOf m / 2 - 1)
  | .slowDist => (0, cpfOf m - 1)
  | .settle => (0, 500)
  | .stall => (16, 1000)
  | .samples => (4, 64)
  | .openTo => (10, 500)
  | .closeTo => (10, 500)
  | .warmup => (0, 10000)
  | .baud => (9600, 57600)

/-- R166: the four line rates. -/
def baudRate (v : Int) : Bool := v == 9600 || v == 19200 || v == 38400 || v == 57600

/-- R47: an accepted ENCODER of another mode sets the defaults of the new mode; the present mode changes nothing. -/
def Conf.setEncoder (m : EncMode) (c : Conf) : Conf :=
  if c.encoder == m then c
  else
    match m with
    | .quad => { c with encoder := m, slipTol := 6, gateTol := 12, slowDist := 48 }
    | .pulsedir => { c with encoder := m, slipTol := 2, gateTol := 3, slowDist := 12 }
    | .count => { c with encoder := m, slipTol := 2, gateTol := 3, slowDist := 12 }

/-- R47, R177: the answer to CONF ENCODER. -/
def ownConfEncoder (mode : Option EncMode) (s : State) : State × Answer :=
  match mode with
  | none => (s, refuse .range)
  | some m =>
    if s.openRoll.isSome then (s, refuse .busy)
    else
      let c := s.store.conf.setEncoder m
      (s.setConf fun _ => c, ok [.word (encModeWord m), numF c.slipTol, numF c.gateTol, numF c.slowDist])

/-- R166: the answer to CONF BAUD; the new rate is in force from the end of the reply on. The rate already in force changes
nothing (log entry 30). -/
def ownConfBaud (v : Int) (s : State) : State × Answer :=
  if !baudRate v then (s, refuseAt .range 2)
  else if v == s.link.rate then (s, ok [.word (confName (.num .baud)), numF s.store.conf.baud])
  else
    (s.setConf (Conf.set .baud v.toNat),
      .accept [.word (confName (.num .baud)), .num v] [] (.baud v.toNat))

/-- R177: the answer to CONF of a clamped field. -/
def ownConfNum (f : NumField) (v : Int) (s : State) : State × Answer :=
  let r := confRange s.store.conf.encoder f
  let w := clampNat r.1 r.2 v
  (s.setConf (Conf.set f w), ok [.word (confName (.num f)), numF w] (clampReport [(2, inRange r.1 r.2 v)]))

/-- R177: the owner's answer to a CONF write. -/
def ownConfWrite (setting : ConfSetting) (s : State) : State × Answer :=
  match setting with
  | .unknown => (s, refuseAt .range 1)
  | .encoder mode => ownConfEncoder mode s
  | .num .baud v => ownConfBaud v s
  | .num .gateTol v => if s.openRoll.isSome then (s, refuse .busy) else ownConfNum .gateTol v s
  | .num f v => ownConfNum f v s

/-- CONF field,value (R177). -/
def execConfWrite (setting : ConfSetting) (s : State) : Out := request .conf (ownConfWrite setting) s

/-- R177: a configuration field's value. -/
def Conf.field (f : ConfField) (c : Conf) : RField :=
  match f with
  | .encoder => .word (encModeWord c.encoder)
  | .num g => numF (c.get g)

/-- R177: the answer to CONF field. -/
def ownConfQuery (field : Option ConfField) (s : State) : Answer :=
  match field with
  | none => refuseAt .range 1
  | some f => ok [s.store.conf.field f]

/-- CONF field (R177). -/
def execConfQuery (field : Option ConfField) (s : State) : Out := request .conf (asks (ownConfQuery field)) s

/-- R177: every field and its value, in the order of the table. -/
def ownConfList (s : State) : Answer :=
  ok (confFields.flatMap fun f => [.word (confName f), s.store.conf.field f])

/-- CONF (R177). -/
def execConfList (s : State) : Out := request .conf (asks ownConfList) s

/-! ## Events (R24, R26, R32, R34, R39, R40) -/

/-- R24: the encoder lines change from the levels `a`, `b` to `a'`, `b'`. -/
def State.encoderChange (a b a' b' : Bool) (s : State) : State :=
  match encoderCounts s.store.conf.encoder a b a' b' with
  | some up => s.countEvent up
  | none => s

/-- COUNT_EVENT: the encoder lines change, and the change is counted by the mode (R24). -/
def execCountEvent (enca encb : Bool) (s : State) : Out :=
  whenLiveLine (fun l => { l with enca := enca, encb := encb })
    (State.encoderChange s.lines.enca s.lines.encb enca encb) s

/-- R26: the difference and 2 × CPF differ by more than the slip tolerance, in either direction. -/
def slips (cpf tol : Nat) (difference : Int) : Bool := tol < (difference - 2 * (cpf : Int)).natAbs

/-- R26: the index check is rewritten. -/
def State.setIndex (i : IndexCheck) (s : State) : State := { s with transport := { s.transport with index := i } }

/-- R26: a rising edge of INDEX. -/
def State.indexEdge (s : State) : State :=
  let c := s.transport.count
  let i := s.transport.index
  match i.state with
  | .starting => s.setIndex { state := .running, reference := c }
  | .running =>
    if s.transport.advance.isSome then
      let t := s.setIndex { i with reference := c }
      if slips s.cpf s.store.conf.slipTol (c - i.reference) then t.failAdvance .slip else t
    else s.setIndex i.restart

/-- INDEX_EDGE (R26). -/
def execIndexEdge (s : State) : Out := whenLive State.indexEdge s

/-- R32: the film-end switch takes a level; an opening is reported to the Frame Table. -/
def State.filmEnd (isOpen : Bool) (s : State) : State :=
  if s.transport.filmEndOpen == isOpen then s
  else
    let t := { s with transport := { s.transport with filmEndOpen := isOpen } }
    if isOpen then t.reportFilmEnd else t

/-- FILM_END_CHANGE: the film-end switch has held a new level for 10 ms (R32). -/
def execFilmEndChange (isOpen : Bool) (s : State) : Out :=
  whenLiveLine (fun l => { l with fendOpen := isOpen }) (State.filmEnd isOpen) s

/-- R34: the step timer expires, when an advance is stepping. -/
def State.stepTimer (s : State) : State :=
  match s.transport.advance with
  | some a =>
    match a.phase with
    | .stepping ending => s.stepExpiry a ending
    | .settling _ => s
  | none => s

/-- STEP_TIMER_EXPIRY (R34). -/
def execStepTimerExpiry (s : State) : Out := whenLive State.stepTimer s

/-- R39: the expiry of the running interval would bring the stall watch to the stall limit. -/
def State.stallDue (s : State) : Bool :=
  match s.transport.advance with
  | some a => a.phase == .stepping none && a.afterStep.stalled s.store.conf.stall
  | none => false

/-- STALL_LIMIT: the step that brings the stall watch to the stall limit (R39, R42). -/
def execStallLimit (s : State) : Out := whenLive (fun t => if t.stallDue then t.stepTimer else t) s

/-- R40: the settle timer expires, when an advance is settling. -/
def State.settleTimer (s : State) : State :=
  match s.transport.advance with
  | some a =>
    match a.phase with
    | .settling _ => s.settleEnd a
    | .stepping _ => s
  | none => s

/-- SETTLE_EXPIRY (R40). -/
def execSettleExpiry (s : State) : Out := whenLive State.settleTimer s

end Sys2Proof.Machine
end

