-- ==== Sys2Proof/Machine/StartOps.lean ====
section
/-! DEFINITION. The shared operations of the starts (chapter 10): the warm start with its treatment of the gate frame (R183,
R184), the reset values of every block (R185 with the reset columns of R48, R65, R83, R117, R149, R178 and chapter 6.8), and
the start record (R186). The cold start is `State.cold` of Machine/State.lean. -/

namespace Sys2Proof.Machine

/-- R186: the start record is rewritten. -/
def State.setStartRecord (f : StartRecord → StartRecord) (s : State) : State :=
  { s with store := { s.store with startRecord := f s.store.startRecord } }

/-- R137, R149: every QUEUED frame returns to NONE. -/
def State.clearQueued (s : State) : State :=
  { s with
    store :=
      { s.store with
        frames := s.store.frames.map fun f => if f.label == .queued then { f with label := .none } else f } }

/-- R32, R48: the film-end switch, read afresh as open, is reported as an opening. -/
def State.readFilmEnd (s : State) : State := if s.lines.fendOpen then s.reportFilmEnd else s

/-! ## The warm start (R183) -/

/-- R183 step 1: every block takes its warm-start values, and every QUEUED frame returns to NONE. -/
def State.warmBlocks (s : State) : State :=
  let t : State :=
    { supply := .running
      resetLow := false
      wipeDue := false
      lines := s.lines
      store := s.store
      transport := Transport.start s.store.lastStop (s.store.interval 0) s.lines.fendOpen
      meter := Meter.start
      contexts := []
      shutter := Shutter.start s.lines.scontOpen
      cycle := Cycle.start
      composer := Composer.start
      printer := Printer.start s.lines.paperOut
      waiting := []
      link := Link.start s.store.conf.baud
      outbox := Outbox.start
      pending := s.pending }
  t.clearQueued.readFilmEnd

/-- R184: the open roll's POSITIONED gate frame at a warm start. -/
def State.treatGate (s : State) : State :=
  match s.store.marker with
  | some c => (s.spoilGate .power c (some 0)).clearMarker
  | none => s.voidGate .power

/-- R186: the gate frame that a warm start treats, and whether it becomes SPOILED. -/
def State.treatedGate (s : State) : Option (Nat × Nat × Bool) :=
  s.gateFrame.map fun f => (f.roll, f.number, s.store.marker.isSome)

/-- R117: an item's QUEUED steps return to PENDING. -/
def Item.unqueueSteps (it : Item) : Item :=
  { it with steps := it.steps.map fun l => l.map fun st => if st == .queued then .pending else st }

/-- R183 step 3: the ACTIVE item's QUEUED steps return to PENDING, and an item whose cancel pending is yes ends CANCELLED. -/
def State.warmItem (s : State) : State :=
  match s.active with
  | some (o, it) => (s.updateItem o.number it.number Item.unqueueSteps).endCancelPending
  | none => s

/-- R183: a warm start. An item whose cancellation waited ends in step 3, and the Charge Unit's look at it may then take the room
of the journal before the rebuild of step 4; a place it would take on the waiting list is given by the rebuild, in posting order
(log entry 60). -/
def State.warm (s : State) : State :=
  let t := s.warmBlocks
  let gate := t.treatedGate
  (t.treatGate.warmItem.rebuildWaiting).setStartRecord fun r =>
    { r with kind := .warm, gate := gate, count := some s.store.lastStop }

/-! ## The reset (R185) -/

/-- R88: at a reset, the pending outcome of a closing is given at once, as for a contact-closed event. -/
def State.resetClosing (s : State) : State :=
  match s.shutter.phase with
  | .closing p _ => s.closingDone p
  | .idle => s
  | .opening => s
  | .opened => s

/-- R48: the transport's reset values; an advance left by the ABRT is ended. -/
def Transport.reset (interval : Nat) (fendOpen : Bool) (t : Transport) : Transport :=
  { Transport.start t.count interval fendOpen with
    held := t.held
    index := t.index.restart
    phase := t.phase
    staged := t.staged }

/-- R65: the Meter Unit's reset values. -/
def Meter.reset (m : Meter) : Meter :=
  { m with live := false, trips := Vector.replicate 3 none, calibration := none, metering := none }

/-- Chapter 6.8: the Label Composer's reset values. -/
def Composer.reset (c : Composer) : Composer := { c with stream := none, raster := Vector.replicate 56 0 }

/-- R185: every block but the Line Link takes its reset values, after the ABRT and the outcome of a closing. -/
def State.resetBlocks (s : State) : State :=
  let t := { s with
    transport := s.transport.reset (s.store.interval 0) s.lines.fendOpen
    meter := s.meter.reset
    contexts := []
    shutter := Shutter.start s.lines.scontOpen
    cycle := Cycle.start
    composer := s.composer.reset
    printer := Printer.start s.lines.paperOut }
  t.clearQueued.readFilmEnd

/-- R185: a reset acts first as ABRT does, and then gives each block its reset values. -/
def State.resetAll (s : State) : State := s.abortAll.resetClosing.resetBlocks

/-- R178: the Line Link after the reset line: the line rate in force is kept. -/
def State.linkReset (s : State) : State :=
  { s with link := Link.start s.link.rate, outbox := Outbox.start }

/-- R178, R182: from an accepted RSET or WIPE on, received lines are discarded without a reply. -/
def Link.startDiscard (l : Link) : Link :=
  { l with
    slots := []
    lost := if l.filling.isSome || l.lost.isSome then some .discarded else none
    overOwed := 0
    discard := true }

/-- R178, R182: from an accepted RSET or WIPE on, received lines are discarded without a reply. -/
def State.startDiscard (s : State) : State := { s with link := s.link.startDiscard }

/-- R178: the pending notices are cleared. -/
def State.clearNotices (s : State) : State := { s with outbox := { s.outbox with notices := [] } }

/-! ## Power (R180) -/

/-- R180: what the power-fail warning does at the stand. -/
def State.outputsOff (s : State) : State :=
  { s with
    shutter := { s.shutter with coil := false }
    cycle := { s.cycle with copyLamp := .off, stageLamp := .off }
    transport := { s.transport with ired := true }
    printer := { s.printer with strobing := false, stepping := false } }

/-- R180: a power-fail warning is taken, which finds the given store, and the part stops. -/
def State.takeWarning (st : Store) (s : State) : State :=
  { s with
    supply := .warned
    lines := { s.lines with falls := s.lines.falls + 1 }
    store := st }

/-- R186: each power-fail warning raises the warning count, held at its top. -/
def StartRecord.warn (r : StartRecord) : StartRecord := { r with warnings := min 65535 (r.warnings + 1) }

/-- R180: with the supply gone the volatile state is gone; it is written as a start would write it, since nothing reads it
until the next start rewrites it. -/
def State.powerLost (s : State) : State :=
  { s with
    supply := .off
    resetLow := false
    wipeDue := false
    transport := Transport.start 0 0 s.lines.fendOpen
    meter := Meter.start
    contexts := []
    shutter := Shutter.start s.lines.scontOpen
    cycle := Cycle.start
    composer := Composer.start
    printer := Printer.start s.lines.paperOut
    waiting := []
    link := Link.start s.store.conf.baud
    outbox := Outbox.start }

end Sys2Proof.Machine
end

