-- ==== Sys2Proof/Machine/General.lean ====
section
/-! DEFINITION. The general requests STAT, WIPE, RSET and MEMS (R176, R182, R185, R186). -/

namespace Sys2Proof.Machine

/-! ## STAT (R176) -/

/-- R176: the pending notice kinds, in the order of R174. -/
def Outbox.kinds (o : Outbox) : RField :=
  let l := NoticeKind.all.filter fun k => o.notices.any fun n => n.kind == k
  if l.isEmpty then .empty else .plus (l.map NoticeKind.word)

/-- OPEN or CLOSED. -/
def openField (b : Bool) : RField := .word (acctStateWord (if b then .opened else .closed))

/-- R176: the nineteen fields of STAT. -/
def ownStat (s : State) : Answer :=
  let roll := s.openRoll
  let last := roll.bind fun r => s.lastFrame r
  ok [.word s.cycle.state.word, s.cycle.state.causeField, optF (fun r => numF (Roll.number r)) roll,
    optF (fun r => .word (Roll.stateWord (Roll.state r))) roll, optF (fun f => numF (Frame.number f)) last,
    optF (fun f => .word (Frame.state f).word) last, .num s.transport.count, yesNo s.transport.held,
    yesNo s.transport.advance.isSome, openField s.transport.filmEndOpen, .word s.shutter.phase.word, numF s.contexts.length,
    .word s.printer.state.word, numF s.printer.queue.length, numF s.freeRecords, numF s.store.journal.length,
    numF s.waiting.length, s.outbox.kinds, numF s.link.rate]

/-- STAT (R176). -/
def execStat (s : State) : Out := request .stat (asks ownStat) s

/-! ## WIPE and RSET (R178, R182, R185) -/

/-- R182: Retained Memory's answer to WIPE: the part acts as ABRT does, and the cold start follows the reply. -/
def ownWipe (all : Bool) (s : State) : State × Answer :=
  if all then (s.abortAll.startDiscard, .accept [] [] .wipe) else (s, refuseAt .range 1)

/-- WIPE ALL (R182). -/
def execWipe (all : Bool) (s : State) : Out := request .wipe (ownWipe all) s

/-- R178, R185, R186: the answer to RSET: the pending notices are cleared, every block is reset, the lines around it are
discarded, and the start record is written. -/
def ownRset (s : State) : State × Answer :=
  ((s.clearNotices.resetAll.startDiscard).setStartRecord fun r => { r with kind := .rset }, .accept [] [] .rset)

/-- RSET (R185). -/
def execRset (s : State) : Out := request .rset ownRset s

/-! ## MEMS (R186) -/

/-- R186: the gate frame of the start record, with SPOILED or VOID. -/
def gateFields (g : Option (Nat × Nat × Bool)) : List RField :=
  match g with
  | some (roll, frame, spoiled) =>
    [.frame roll frame, .word (if spoiled then FrameState.spoiled else FrameState.void).word]
  | none => [.empty, .empty]

/-- R186: Retained Memory's answer to MEMS. -/
def ownMems (s : State) : Answer :=
  let r := s.store.startRecord
  ok ([if s.store.valid then .word ['V'] else .empty, .word (if s.store.marker.isSome then ['S'] else ['C']),
       .word r.kind.word, numF r.warnings] ++ gateFields r.gate ++ [optF .num r.count])

/-- MEMS (R186). -/
def execMems (s : State) : Out := request .mems (asks ownMems) s

end Sys2Proof.Machine
end

