-- ==== Sys2Proof/Machine/Rolls.lean ====
section
/-! DEFINITION. The requests of the Frame Table (chapter 1): LOAD, UNLD, DROP, FRAM, ROLL, PICK and RJCT. -/

namespace Sys2Proof.Machine

/-! ## LOAD (R2, R15) -/

/-- R2: the first number from `n` on that no roll in the directory bears, within `fuel` further advances. -/
def freeNumber : Nat → List Roll → Nat → Nat
  | 0, _, n => n
  | fuel + 1, rolls, n => if rolls.any fun r => r.number == n then freeNumber fuel rolls (nextNumber n) else n

/-- R2: the roll number that a LOAD gives. -/
def State.newRollNumber (s : State) : Nat := freeNumber 4 s.store.rolls (nextNumber s.store.rollCounter)

/-- R1, R5, R7, R15: the roll record that a LOAD makes. -/
def State.newRoll (film : Nat) (length : Option Nat) (s : State) : Roll where
  number := s.newRollNumber
  film := film
  state := .threading
  base := s.store.conf.leader * s.cpf
  length := length
  frameCount := 0
  tail := if s.transport.filmEndOpen then some s.store.conf.tail else none
  positionValid := true
  fault := none

/-- R15: entry 0 of the zone table for a roll's leader. -/
def leaderZone (base : Nat) : Option Zone :=
  if base == 0 then none else some { kind := .leader, low := 0, high := (base : Int) - 1 }

/-- R15, R25, R26: the transport at the load mark. -/
def Transport.atLoad (r : Roll) (cpf : Nat) (t : Transport) : Transport :=
  { t with
    count := 0
    held := false
    index := t.index.restart
    slow := none
    stop := none
    limit := r.length.map fun n => newTarget ((r.base + n * cpf : Nat) : Int) 0
    marks := [] }

/-- R15: what an accepted LOAD writes, before the threading advance starts. -/
def State.loadRoll (r : Roll) (s : State) : State :=
  { s with
    store :=
      { s.store with
        rolls := s.store.rolls ++ [r]
        rollCounter := r.number
        zone0 := leaderZone r.base
        zones := [] }
    transport := s.transport.atLoad r s.cpf }

/-- R15: the Frame Table's answer to LOAD. -/
def ownLoad (film : Int) (length : Option Int) (s : State) : State × Answer :=
  if !inRange 1 8 film then (s, refuseAt .range 1)
  else if (s.film film.toNat).isNone then (s, refuseAt .none 1)
  else if s.openRoll.isSome then (s, refuse .busy)
  else if Config.maxRolls ≤ s.store.rolls.length || s.freeRecords == 0 then (s, refuse .full)
  else
    let r := s.newRoll film.toNat (length.map (clampNat 1 Config.maxRollFrames))
    ((s.loadRoll r).startAdvance .load,
      ok [numF r.number, numF r.film, numF r.base]
        (clampReport [(2, (length.map (inRange 1 Config.maxRollFrames)).getD true)]))

/-- LOAD film[,length] (R15). -/
def execLoad (film : Int) (length : Option Int) (s : State) : Out := request .load (ownLoad film length) s

/-! ## UNLD (R17) -/

/-- R17: UNLD is refused in these states of the cycle. -/
def CycleState.working : CycleState → Bool
  | .metering => true
  | .exposing => true
  | .winding => true
  | .stopped => false
  | .place => false
  | .warmup => false
  | .waiting _ => false
  | .halted _ _ => false

/-- R111: the controller is told that the open roll has lost its gate frame. -/
def State.gateLost (s : State) : State :=
  match s.cycle.state with
  | .place => s.enterWaiting .noRoll
  | .warmup => s.enterWaiting .noRoll
  | _ => s

/-- R17: an open roll comes off the stand. -/
def State.unloadRoll (r : Roll) (s : State) : State :=
  let t := s.voidGate .unload
  (t.changeRoll r (if t.rollSettleable r.number then .settled else .closed)).gateLost

/-- R17, R45: the Frame Table's answer to UNLD. -/
def ownUnld (s : State) : State × Answer :=
  match s.openRoll with
  | none => (s, refuse .none)
  | some r =>
    if s.cycle.state.working || s.transport.advance.isSome || s.shutter.phase != .idle then (s, refuse .busy)
    else (s.unloadRoll r, ok [])

/-- UNLD (R17). -/
def execUnld (s : State) : Out := request .unld ownUnld s

/-! ## DROP (R18) -/

/-- R18: a frame that keeps its roll in the directory. -/
def Frame.uncharged (f : Frame) : Bool := (f.state == .exposed || f.state == .spoiled) && !f.charged

/-- R18: the channel is printing an RPRT label of a frame of the roll. -/
def Printer.reprints (roll : Nat) (p : Printer) : Bool :=
  match p.hand with
  | some h => h.kind == .rprt && h.roll == roll
  | none => false

/-- R18: a roll and its frame records leave the store. The removal raises no ROLL notice: R3 and R18 leave open whether it does
(log entry 62). -/
def State.dropRoll (roll : Nat) (s : State) : State :=
  { s with
    store :=
      { s.store with
        rolls := s.store.rolls.filter fun r => r.number != roll
        frames := s.store.frames.filter fun f => f.roll != roll } }

/-- R18: the Frame Table's answer to DROP, which raises no notice (log entry 62). -/
def ownDrop (roll : Int) (s : State) : State × Answer :=
  if !inRange 1 65535 roll then (s, refuseAt .range 1)
  else
    match s.rollNumbered roll.toNat with
    | none => (s, refuseAt .none 1)
    | some r =>
      if r.state != .settled then (s, refuseAt .state 1)
      else if (s.rollFrames r.number).any Frame.uncharged then (s, refuse .busy)
      else if s.printer.reprints r.number then (s, refuse .busy)
      else (s.dropRoll r.number, ok [numF r.number, numF (s.rollFrames r.number).length])

/-- DROP roll (R18). -/
def execDrop (roll : Int) (s : State) : Out := request .drop (ownDrop roll) s

/-! ## FRAM and ROLL (R19, R20) -/

/-- The frame named by a frame reference, once both numbers are in range and the roll holds it (R19). -/
def State.namedFrame (roll frame : Int) (s : State) : Option Frame :=
  match s.rollNumbered roll.toNat with
  | some r => if r.frameCount < frame.toNat then none else s.frameAt roll.toNat frame.toNat
  | none => none

/-- R19: both numbers of a frame reference are in range. -/
def frameRange (roll frame : Int) : Bool := inRange 1 65535 roll && inRange 1 1000 frame

/-- R19: the seventeen fields of a frame record. -/
def Frame.fields (f : Frame) : List RField :=
  [.frame f.roll f.number, .word f.state.word, optF (fun c => .word (FrameCause.word c)) f.cause, optF .num f.gateCount,
   optF (fun r => numF (ItemRef.order r)) f.ref, optF (fun r => numF (ItemRef.item r)) f.ref,
   optF (fun r => numF (ItemRef.set r)) f.ref, optF (fun r => numF (ItemRef.step r)) f.ref,
   optF (fun r => .num (ItemRef.offset r)) f.ref,
   optF (fun c => numF (Computed.logT c)) f.computed, optF (fun c => numF (Computed.planned c)) f.computed,
   optF numF f.measured, optF numF (f.computed.bind (·.light)), optF (fun c => flagsField (Computed.flags c)) f.computed,
   optF (fun x => .word (Selection.word x)) f.selection, .word f.label.word, yesNo f.charged]

/-- R19: the Frame Table's answer to FRAM. -/
def ownFram (roll frame : Int) (s : State) : Answer :=
  if !frameRange roll frame then refuse .range
  else
    match s.namedFrame roll frame with
    | none => refuse .none
    | some f => ok f.fields

/-- FRAM roll/frame (R19). -/
def execFram (roll frame : Int) (s : State) : Out := request .fram (asks (ownFram roll frame)) s

/-- R20: the directory's listing. -/
def ownRollList (s : State) : Answer :=
  ok (s.store.rolls.flatMap fun r => [numF r.number, .word (Roll.stateWord r.state)])

/-- ROLL (R20). -/
def execRollList (s : State) : Out := request .roll (asks ownRollList) s

/-- R20: the roll's EXPOSED frames that are still UNDECIDED. -/
def State.undecidedCount (roll : Nat) (s : State) : Nat :=
  ((s.rollFrames roll).filter fun f => f.state == .exposed && f.selection == some .undecided).length

/-- R20: the roll's KEPT frames that are not yet PRINTED. -/
def State.unprintedCount (roll : Nat) (s : State) : Nat :=
  ((s.rollFrames roll).filter fun f => f.selection == some .kept && f.label != .printed).length

/-- R20: the fields of one roll record, with the two figures worked out at the query. -/
def State.rollFields (r : Roll) (s : State) : List RField :=
  [numF r.number, numF r.film, .word (Roll.stateWord r.state), numF r.base, optF numF r.length, numF r.frameCount,
   optF numF r.tail, yesNo r.positionValid, optF (fun f => .word (ThreadFault.word f)) r.fault,
   numF (s.undecidedCount r.number), numF (s.unprintedCount r.number)]

/-- R20: the Frame Table's answer to ROLL roll. -/
def ownRollQuery (roll : Int) (s : State) : Answer :=
  if !inRange 1 65535 roll then refuse .range
  else
    match s.rollNumbered roll.toNat with
    | none => refuse .none
    | some r => ok (s.rollFields r)

/-- ROLL roll (R20). -/
def execRollQuery (roll : Int) (s : State) : Out := request .roll (asks (ownRollQuery roll)) s

/-! ## PICK and RJCT (R21 to R23) -/

/-- R21: a frame belongs to the set of an item reference. -/
def Frame.inSet (r : ItemRef) (f : Frame) : Bool :=
  match f.ref with
  | some q => q.order == r.order && q.item == r.item && q.set == r.set
  | none => false

/-- R21: the set of an item reference is incomplete. -/
def State.setIncomplete (r : ItemRef) (s : State) : Bool :=
  match s.item r.order r.item with
  | some it =>
    it.state == .active && it.currentSet == some r.set && ((it.steps.getD []).any fun st => st != .done)
  | none => false

/-- A frame that is EXPOSED with selection UNDECIDED. -/
def Frame.undecided (f : Frame) : Bool := f.state == .exposed && f.selection == some .undecided

/-- The number, counted from 1, of the first element that a test holds of. -/
def firstAt {α : Type} (test : α → Bool) (l : List α) : Option Nat := (l.findIdx? test).map (· + 1)

/-- R22: the field number of the second naming of a frame. -/
def secondNaming : List (Int × Int) → List (Int × Int) → Nat → Option Nat
  | _, [], _ => none
  | seen, p :: rest, n => if seen.contains p then some n else secondNaming (p :: seen) rest (n + 1)

/-- R22: the checks of a PICK, in order: the refusal of the first that fails, or the set that is decided. -/
def State.checkPick (frames : List (Int × Int)) (s : State) : Except Answer ItemRef :=
  if frames.isEmpty || 7 < frames.length then .error (refuse .form)
  else
    match firstAt (fun p : Int × Int => !frameRange p.1 p.2) frames with
    | some n => .error (refuseAt .range n)
    | none =>
      match secondNaming [] frames 1 with
      | some n => .error (refuseAt .dup n)
      | none =>
        match firstAt (fun p : Int × Int => (s.frameAt p.1.toNat p.2.toNat).isNone) frames with
        | some n => .error (refuseAt .none n)
        | none =>
          let recs := frames.filterMap fun p => s.frameAt p.1.toNat p.2.toNat
          match firstAt (fun f : Frame => !f.undecided) recs with
          | some n => .error (refuseAt .state n)
          | none =>
            match (recs.head?).bind (·.ref) with
            | none => .error (refuseAt .state 1)
            | some r =>
              match firstAt (fun f : Frame => !f.inSet r) recs with
              | some n => .error (refuseAt .state n)
              | none => if s.setIncomplete r then .error (refuseAt .open_ 1) else .ok r

/-- A frame that a decision on a set decides. -/
def Frame.decides (r : ItemRef) (f : Frame) : Bool := f.inSet r && f.undecided

/-- R22, R23: every EXPOSED UNDECIDED frame of a set is decided: KEPT when it is named, else REJECTED. -/
def decideFrames (r : ItemRef) (named : Frame → Bool) (l : List Frame) : List Frame :=
  l.map fun f =>
    if f.decides r then { f with selection := some (if named f then .kept else .rejected) } else f

/-- R12: an item's counters after a decision of so many frames. -/
def Item.countDecisions (kept rejected : Nat) (it : Item) : Item :=
  { it with kept := it.kept + kept, rejected := it.rejected + rejected }

/-- R12, R14: the rolls that a decision touches. R12 leaves open in which order they are checked: they are checked in load order
(log entry 63). -/
def State.touchedRolls (r : ItemRef) (s : State) : List Nat :=
  (s.store.rolls.map (·.number)).filter fun n => (s.rollFrames n).any fun f => f.decides r

/-- R12, R22, R23: a set is decided: the frames, the item's counters, the Charge Unit's look, and the roll checks, in the order of
log entry 63. -/
def State.decide (r : ItemRef) (named : Frame → Bool) (s : State) : State :=
  let all := s.store.frames.filter fun f => f.decides r
  let kept := (all.filter named).length
  let t := { s with store := { s.store with frames := decideFrames r named s.store.frames } }
  let u := (t.updateItem r.order r.item (Item.countDecisions kept (all.length - kept))).lookItem r.order r.item
  (s.touchedRolls r).foldl (fun v n => v.checkRoll n) u

/-- R22, R23: the set reference, order.item.set. -/
def setField (r : ItemRef) : RField := .dotted [r.order, r.item, r.set]

/-- A frame is one of the frames named. -/
def namedIn (frames : List (Int × Int)) (f : Frame) : Bool := frames.contains ((f.roll : Int), (f.number : Int))

/-- R22: the Frame Table's answer to PICK. -/
def ownPick (frames : List (Int × Int)) (s : State) : State × Answer :=
  match s.checkPick frames with
  | .error a => (s, a)
  | .ok r =>
    let all := s.store.frames.filter fun f => f.decides r
    let kept := (all.filter (namedIn frames)).length
    (s.decide r (namedIn frames), ok [setField r, numF kept, numF (all.length - kept)])

/-- PICK roll/frame[,roll/frame …] (R22). -/
def execPick (frames : List (Int × Int)) (s : State) : Out := request .pick (ownPick frames) s

/-- R23: the Frame Table's answer to RJCT. -/
def ownRjct (roll frame : Int) (s : State) : State × Answer :=
  match s.checkPick [(roll, frame)] with
  | .error a => (s, a)
  | .ok r =>
    (s.decide r fun _ => false, ok [setField r, numF (s.store.frames.filter fun f => f.decides r).length])

/-- RJCT roll/frame (R23). -/
def execRjct (roll frame : Int) (s : State) : Out := request .rjct (ownRjct roll frame) s

end Sys2Proof.Machine
end

