-- ==== Sys2Proof/Machine/Labels.lean ====
section
/-! DEFINITION. The requests of the Label Composer (chapter 6) and the requests and events of the Label Print Channel
(chapter 7). -/

namespace Sys2Proof.Machine

/-! ## GLYF (R128, R129) -/

/-- R128: the field number of the first glyph field that is no glyph, and the glyphs otherwise; `n` is the next field's
number. -/
def readGlyphs : Nat → List Text → Except Nat (List (Vector Byte 12))
  | _, [] => .ok []
  | n, t :: rest =>
    match glyphOf t with
    | none => .error n
    | some g => (readGlyphs (n + 1) rest).map fun l => g :: l

/-- R128: glyphs are written into consecutive places of the table, from place `i` upward. -/
def writeGlyphs : Nat → List (Vector Byte 12) → GlyphTable → GlyphTable
  | _, [], t => t
  | i, g :: rest, t => writeGlyphs (i + 1) rest (t.setIfInBounds i g)

/-- R128: the glyph table is rewritten. -/
def State.setGlyphs (t : GlyphTable) (s : State) : State := { s with store := { s.store with glyphs := t } }

/-- R128: the Label Composer's answer to GLYF code,glyph[,…]. -/
def ownGlyfLoad (code : Int) (glyphs : List Text) (s : State) : State × Answer :=
  if glyphs.isEmpty || 16 < glyphs.length then (s, refuse .form)
  else if !inRange 32 126 code then (s, refuseAt .range 1)
  else if code + glyphs.length - 1 > 126 then (s, refuseAt .range 1)
  else
    match readGlyphs 2 glyphs with
    | .error n => (s, refuseAt .form n)
    | .ok l => (s.setGlyphs (writeGlyphs (code.toNat - 32) l s.store.glyphs), ok [.num code, numF l.length])

/-- GLYF code,glyph[,…] (R128). -/
def execGlyfLoad (code : Int) (glyphs : List Text) (s : State) : Out := request .glyf (ownGlyfLoad code glyphs) s

/-- R129: the Label Composer's answer to GLYF code. -/
def ownGlyfQuery (code : Int) (s : State) : Answer :=
  if !inRange 32 126 code then refuseAt .range 1
  else ok [.num code, .hex (((s.store.glyphs[code.toNat - 32]?).map Vector.toList).getD [])]

/-- GLYF code (R129). -/
def execGlyfQuery (code : Int) (s : State) : Out := request .glyf (asks (ownGlyfQuery code)) s

/-! ## EMBL and DOTS (R131, R132) -/

/-- R130: the emblem window is rewritten. -/
def State.setWindowRect (x0 x1 y0 y1 : Nat) (s : State) : State :=
  { s with composer := { s.composer with x0 := x0, x1 := x1, y0 := y0, y1 := y1 } }

/-- R131: the window's coordinates, its row length and its capacity. -/
def Composer.windowFields (c : Composer) : List RField :=
  [numF c.x0, numF c.x1, numF c.y0, numF c.y1, numF c.rowLength, numF c.capacity]

/-- R131: the Label Composer's answer to EMBL x0,x1,y0,y1. -/
def ownEmblWindow (x0 x1 y0 y1 : Int) (s : State) : State × Answer :=
  let a := clampNat 0 63 x0
  let b := clampNat 0 63 x1
  let c := clampNat 0 55 y0
  let d := clampNat 0 55 y1
  if b < a then (s, refuseAt .range 1)
  else if d < c then (s, refuseAt .range 3)
  else
    let t := s.setWindowRect a b c d
    (t, ok t.composer.windowFields
      (clampReport [(1, inRange 0 63 x0), (2, inRange 0 63 x1), (3, inRange 0 55 y0), (4, inRange 0 55 y1)]))

/-- EMBL x0,x1,y0,y1 (R131). -/
def execEmblWindow (x0 x1 y0 y1 : Int) (s : State) : Out := request .embl (ownEmblWindow x0 x1 y0 y1) s

/-- R130: the emblem raster is rewritten. -/
def State.setEmblem (e : EmblemRaster) (s : State) : State := { s with store := { s.store with emblem := e } }

/-- R131: the Label Composer's answer to EMBL CLEAR. -/
def ownEmblClear (s : State) : State × Answer := (s.setEmblem (Vector.replicate 56 0), ok [])

/-- EMBL CLEAR (R131). -/
def execEmblClear (s : State) : Out := request .embl ownEmblClear s

/-- R131: the stream state with its position. -/
def streamFields (p : Option (Nat × Nat)) : List RField :=
  match p with
  | some (i, j) => [.word ['R', 'U', 'N', 'N', 'I', 'N', 'G'], numF i, numF j]
  | none => [.word ['E', 'N', 'D', 'E', 'D'], .empty, .empty]

/-- R131: the Label Composer's answer to EMBL. -/
def ownEmblQuery (s : State) : Answer := ok (s.composer.windowFields ++ streamFields s.composer.stream)

/-- EMBL (R131). -/
def execEmblQuery (s : State) : Out := request .embl (asks ownEmblQuery) s

/-- R132: the DOTS stream's position is rewritten. -/
def State.setStream (i j : Nat) (s : State) : State := { s with composer := { s.composer with stream := some (i, j) } }

/-- R132: the Label Composer's answer to DOTS. -/
def ownDots (data : Text) (s : State) : State × Answer :=
  if data.isEmpty then (s, refuseAt .form 1)
  else
    match hexBytes data with
    | none => (s, refuseAt .form 1)
    | some bytes =>
      let start := s.composer.stream.getD (0, 0)
      match writeDots s.composer bytes s.store.emblem start.1 start.2 0 with
      | (e, i, j, wraps) => ((s.setEmblem e).setStream i j, ok [numF bytes.length, numF i, numF j, numF wraps])

/-- DOTS data (R132). -/
def execDots (data : Text) (s : State) : Out := request .dots (ownDots data) s

/-! ## LTXT (R134) -/

/-- R134: the Label Composer's answer to LTXT. -/
def ownLtxt (roll frame : Int) (s : State) : Answer :=
  if !frameRange roll frame then refuseAt .range 1
  else
    match s.namedFrame roll frame with
    | none => refuseAt .none 1
    | some f =>
      if f.state != .exposed && f.state != .spoiled then refuseAt .state 1
      else
        match s.labelLines f with
        | (lines, found) => ok (lines.map .text ++ [yesNo found])

/-- LTXT roll/frame (R134). -/
def execLtxt (roll frame : Int) (s : State) : Out := request .ltxt (asks (ownLtxt roll frame)) s

/-! ## PRNT, PSTP and RPRT (R138, R145, R146) -/

/-- R138: the queue holds frames of another roll. -/
def Printer.otherRoll (roll : Nat) (p : Printer) : Bool :=
  match p.queue with
  | q :: _ => q.1 != roll
  | [] => false

/-- R138: the frames a look goes through: from frame 1, or from the frame after the highest frame in the queue. -/
def State.lookFrom (roll : Nat) (s : State) : List Frame :=
  match s.printer.queue.getLast? with
  | some q => (s.rollFrames roll).filter fun f => q.2 < f.number
  | none => s.rollFrames roll

/-- R137, R138: the frames of a look join the queue's tail and become QUEUED. -/
def State.enqueue (roll : Nat) (l : List Nat) (s : State) : State :=
  (s.setLabels roll l .queued).withPrinter fun p => { p with queue := p.queue ++ l.map fun n => (roll, n) }

/-- R138: the cause that ended a look, with the frame where it stopped. -/
def lookFields (roll : Nat) (e : LookEnd) : List RField :=
  match e with
  | .undecided n => [.word Selection.undecided.word, .frame roll n]
  | .full n => [.word ['F', 'U', 'L', 'L'], .frame roll n]
  | .finished => [.word ['E', 'N', 'D']]

/-- R138, R139: the channel starts a label when it is IDLE and the queue has become non-empty. -/
def State.startIfIdle (s : State) : State := if s.printer.state == .idle then s.startHead else s

/-- R138: the Label Print Channel's answer to PRNT. -/
def ownPrnt (roll : Int) (s : State) : State × Answer :=
  if !inRange 1 65535 roll then (s, refuseAt .range 1)
  else
    match s.rollNumbered roll.toNat with
    | none => (s, refuseAt .none 1)
    | some r =>
      if s.printer.otherRoll r.number then (s, refuse .busy)
      else
        match lookFrames (s.lookFrom r.number) (Config.maxLabels - s.printer.queue.length) with
        | (l, e) =>
          let t := s.enqueue r.number l
          (if s.printer.queue.isEmpty then t.startIfIdle else t, ok ([numF r.number, numF l.length] ++ lookFields r.number e))

/-- PRNT roll (R138). -/
def execPrnt (roll : Int) (s : State) : Out := request .prnt (ownPrnt roll) s

/-- R145: the queue that a PSTP leaves: the head that is in hand, or nothing. -/
def Printer.keptQueue (p : Printer) : List (Nat × Nat) :=
  match p.hand with
  | some h => match h.kind with
    | .queue => p.queue.take 1
    | .rprt => []
  | none => []

/-- R145: PSTP in FEEDING, PRINTING and PRESENTING: every frame that is not in hand leaves the queue. -/
def State.stopQueue (s : State) : State :=
  let kept := s.printer.keptQueue
  (s.unqueue (s.printer.queue.drop kept.length)).withPrinter fun p => { p with queue := kept }

/-- R145: PSTP in STALLED: the label in hand is dropped, the queue is emptied, and the channel enters IDLE. -/
def State.dropLabel (h : LabelHand) (s : State) : State :=
  ((s.unqueue s.printer.queue).withPrinter fun p =>
    { p with queue := [], hand := none, state := .idle, strobe := none, paperWait := false }).raiseLabel h.roll .stopped

/-- R145: the Label Print Channel's answer to PSTP. -/
def ownPstp (s : State) : State × Answer :=
  match s.printer.state, s.printer.hand with
  | .idle, _ => (s, ok [numF 0, .empty])
  | .stalled _, some h => (s.dropLabel h, ok [numF s.printer.queue.length, .empty])
  | .stalled _, none => (s, ok [numF 0, .empty])
  | _, h =>
    (s.stopQueue,
      ok [numF (s.printer.queue.length - s.printer.keptQueue.length), optF (fun x => .frame (LabelHand.roll x) x.frame) h])

/-- PSTP (R145). -/
def execPstp (s : State) : Out := request .pstp ownPstp s

/-- R146: the Label Print Channel's answer to RPRT. -/
def ownRprt (roll frame : Int) (s : State) : State × Answer :=
  if !frameRange roll frame then (s, refuseAt .range 1)
  else
    match s.namedFrame roll frame with
    | none => (s, refuseAt .none 1)
    | some f =>
      if f.selection != some .kept || f.label != .printed then (s, refuseAt .state 1)
      else if s.printer.state != .idle then (s, refuse .busy)
      else (s.startLabel { roll := f.roll, frame := f.number, kind := .rprt }, ok [])

/-- RPRT roll/frame (R146). -/
def execRprt (roll frame : Int) (s : State) : Out := request .rprt (ownRprt roll frame) s

/-! ## DENS and LQUE (R142, R147) -/

/-- R142: the density selection is rewritten. -/
def State.setDensity (d : Nat) (s : State) : State := { s with store := { s.store with density := d } }

/-- R142: the four density selections. -/
def densityOk (v : Int) : Bool := v == 1 || v == 2 || v == 4 || v == 8

/-- R142: the Label Print Channel's answer to DENS value. -/
def ownDensWrite (value : Int) (s : State) : State × Answer :=
  if densityOk value then (s.setDensity value.toNat, ok [.num value])
  else (s, ok [numF s.store.density, .word ['U', 'N', 'C', 'H', 'A', 'N', 'G', 'E', 'D']])

/-- DENS value (R142). -/
def execDensWrite (value : Int) (s : State) : Out := request .dens (ownDensWrite value) s

/-- R142: the density selection. -/
def ownDensQuery (s : State) : Answer := ok [numF s.store.density]

/-- DENS (R142). -/
def execDensQuery (s : State) : Out := request .dens (asks ownDensQuery) s

/-- R147: the stall cause of a channel state. -/
def ChanState.cause : ChanState → Option StallCause
  | .stalled c => some c
  | .idle => none
  | .feeding => none
  | .printing => none
  | .presenting => none

/-- R147: the Label Print Channel's answer to LQUE. -/
def ownLque (s : State) : Answer :=
  let p := s.printer
  ok ([.word p.state.word, optF (fun c => .word (StallCause.word c)) p.state.cause,
       optF (fun h => .frame (LabelHand.roll h) h.frame) p.hand, optF (fun h => .word (LabelHand.kind h).word) p.hand,
       numF p.rows, optF numF p.strobe, numF s.store.density,
       .word (if p.paperOut then ['O', 'U', 'T'] else ['P', 'R', 'E', 'S', 'E', 'N', 'T']),
       if p.paperWait then .word ['W'] else .empty, numF p.queue.length] ++
      p.queue.map fun q => .frame q.1 q.2)

/-- LQUE (R147). -/
def execLque (s : State) : Out := request .lque (asks ownLque) s

/-! ## Feeding (R139) -/

/-- R139: a row step of a feed completes; the one that brings the row counter to 120 stalls the channel. -/
def State.feedRow (s : State) : State :=
  match s.printer.state, s.printer.hand with
  | .feeding, some h =>
    if Config.feedLimit ≤ s.printer.rows + 1 then s.feedLimit h
    else s.withPrinter fun p => { p with rows := p.rows + 1 }
  | _, _ => s

/-- FEED_ROW_STEP (R139). -/
def execFeedRowStep (s : State) : Out := whenLive State.feedRow s

/-- FEED_ROW_LIMIT: the row step that brings the row counter to 120 (R139). -/
def execFeedRowLimit (s : State) : Out :=
  whenLive (fun t => if t.printer.rows + 1 == Config.feedLimit then t.feedRow else t) s

/-- R139, R140: a label edge event ends a feed. -/
def State.labelEdge (s : State) : State :=
  match s.printer.state, s.printer.hand with
  | .feeding, some h => s.enterPrinting h
  | _, _ => s

/-- LABEL_EDGE (R139). -/
def execLabelEdge (s : State) : Out := whenLive State.labelEdge s

/-! ## Printing rows (R140) -/

/-- R140: the strobe of row i ends: the row counter becomes i + 1, the paper steps, and the next row's transfer begins. -/
def Printer.strobeEnd (p : Printer) : Printer :=
  if p.state == .printing && p.strobing then
    { p with
      strobing := false
      stepping := true
      rows := p.rows + 1
      transferring := p.rows + 1 < Config.labelRows }
  else p

/-- STROBE_END (R140). -/
def execStrobeEnd (s : State) : Out := whenLive (State.withPrinter Printer.strobeEnd) s

/-- R140: a row has been shifted into the head. -/
def Printer.transferred (row : BitVec 320) (p : Printer) : Printer :=
  if p.state == .printing && p.transferring then { p with transferring := false, shift := row }.strobeIfReady else p

/-- R118, R140: the raster row that is transferred at a row counter. -/
def Composer.rowAt (n : Nat) (c : Composer) : BitVec 320 := (c.raster[n]?).getD 0

/-- ROW_TRANSFER_COMPLETE (R140). -/
def execRowTransferComplete (s : State) : Out :=
  whenLive (fun t => t.withPrinter (Printer.transferred (t.composer.rowAt t.printer.rows))) s

/-- R140: the paper step after a strobe completes; the one after row 55 ends the printing. -/
def Printer.stepped (p : Printer) : Printer :=
  if p.state == .printing && p.stepping then
    if Config.labelRows ≤ p.rows then { p.quiet with state := .presenting, rows := 0 }
    else { p with stepping := false }.strobeIfReady
  else p

/-- PRINT_PAPER_STEP (R140). -/
def execPrintPaperStep (s : State) : Out := whenLive (State.withPrinter Printer.stepped) s

/-! ## Presenting (R143) -/

/-- R143: a row step in PRESENTING completes; the 24th completes the label. -/
def State.presentRow (s : State) : State :=
  match s.printer.state, s.printer.hand with
  | .presenting, some h =>
    if Config.presentRows ≤ s.printer.rows + 1 then s.completeLabel h
    else s.withPrinter fun p => { p with rows := p.rows + 1 }
  | _, _ => s

/-- PRESENT_ROW_STEP (R143). -/
def execPresentRowStep (s : State) : Out := whenLive State.presentRow s

/-- LABEL_COMPLETE: the 24th row step of PRESENTING (R143). -/
def execLabelComplete (s : State) : Out :=
  whenLive (fun t => if t.printer.rows + 1 == Config.presentRows then t.presentRow else t) s

/-! ## Paper (R144) -/

/-- The channel's paper state is rewritten. -/
def State.setPaper (out : Bool) (s : State) : State := s.withPrinter fun p => { p with paperOut := out }

/-- R144: a label is abandoned for paper, or a NOGAP stall becomes a PAPER stall. -/
def State.paperStall (s : State) : State :=
  match s.printer.hand with
  | some h => (s.withPrinter (Printer.stall .paper)).raiseLabel h.roll .paper
  | none => s

/-- R144: a paper-out event. -/
def State.paperGone (s : State) : State :=
  if s.printer.paperOut then s
  else
    let t := s.setPaper true
    match s.printer.state with
    | .feeding => t.paperStall
    | .printing => t.paperStall
    | .stalled .noGap => t.paperStall
    | .stalled .paper => t.withPrinter fun p => { p with paperWait := false }
    | .presenting => t
    | .idle => t

/-- PAPER_OUT: PAPER has held high for 20 ms (R144). -/
def execPaperOut (s : State) : Out := whenLiveLine (fun l => { l with paperOut := true }) State.paperGone s

/-- R144: a paper-in event. -/
def State.paperBack (s : State) : State :=
  if s.printer.paperOut then
    let t := s.setPaper false
    if s.printer.state == .stalled .paper then t.withPrinter fun p => { p with paperWait := true } else t
  else s

/-- PAPER_IN: PAPER has held low for 20 ms (R144). -/
def execPaperIn (s : State) : Out := whenLiveLine (fun l => { l with paperOut := false }) State.paperBack s

/-- R144: the paper wait expires, and the label in hand is fed again. -/
def Printer.paperWaited (p : Printer) : Printer :=
  if p.paperWait && p.state == .stalled .paper then p.startFeed else p

/-- PAPER_WAIT_EXPIRY (R144). -/
def execPaperWaitExpiry (s : State) : Out := whenLive (State.withPrinter Printer.paperWaited) s

end Sys2Proof.Machine
end

