-- ==== Sys2Proof/Machine/Metering.lean ====
section
/-! DEFINITION. The requests and the event of Light Metering (chapter 3): OFFS, GAIN, CALB, WTCH, READ and the completion of a
reading. -/

namespace Sys2Proof.Machine

/-- A channel number as a channel, when it is one of 0..3. -/
def channelOf (v : Int) : Option (Fin 4) :=
  if h : 0 ≤ v ∧ v < 4 then some ⟨v.toNat, by omega⟩ else none

/-- R52, R53, R57: the cycle is in METERING or EXPOSING. -/
def State.meterBusy (s : State) : Bool := s.cycle.state == .metering || s.cycle.state == .exposing

/-- A channel as a reply field. -/
def chanF (ch : Fin 4) : RField := numF ch.val

/-! ## OFFS (R52) -/

/-- R50: an offset slot is rewritten; `slot` is its number less 1. -/
def State.setSlot (slot : Nat) (x : Option OffsetSlot) (s : State) : State :=
  { s with store := { s.store with slots := s.store.slots.setIfInBounds slot x } }

/-- R52: a slot as it is listed. -/
def slotFields (n : Nat) (x : Option OffsetSlot) : List RField :=
  [numF n, optF (fun o => chanF (OffsetSlot.channel o)) x, optF (fun o => numF (OffsetSlot.offset o)) x]

/-- R52: the Meter Unit's answer to OFFS slot,channel,value. -/
def ownOffsWrite (slot channel value : Int) (s : State) : State × Answer :=
  if !inRange 1 4 slot then (s, refuseAt .range 1)
  else
    match channelOf channel with
    | none => (s, refuseAt .range 2)
    | some ch =>
      if s.meterBusy then (s, refuse .busy)
      else
        let x : OffsetSlot := { channel := ch, offset := clampNat 0 8191 value }
        let t := s.setSlot (slot.toNat - 1) (some x)
        (t, ok (slotFields slot.toNat (some x) ++ [chanF ch, numF (t.offsetOf ch)]) (clampReport [(3, inRange 0 8191 value)]))

/-- OFFS slot,channel,value (R52). -/
def execOffsWrite (slot channel value : Int) (s : State) : Out := request .offs (ownOffsWrite slot channel value) s

/-- R52: the Meter Unit's answer to OFFS slot. -/
def ownOffsEmpty (slot : Int) (s : State) : State × Answer :=
  if !inRange 1 4 slot then (s, refuseAt .range 1)
  else if s.meterBusy then (s, refuse .busy)
  else (s.setSlot (slot.toNat - 1) none, ok (slotFields slot.toNat none))

/-- OFFS slot (R52). -/
def execOffsEmpty (slot : Int) (s : State) : Out := request .offs (ownOffsEmpty slot) s

/-- R52: the four slots. -/
def ownOffsList (s : State) : Answer := ok ((s.store.slots.toList.zipIdx 1).flatMap fun p => slotFields p.2 p.1)

/-- OFFS (R52). -/
def execOffsList (s : State) : Out := request .offs (asks ownOffsList) s

/-! ## GAIN (R53) -/

/-- R51: a channel's gain is rewritten. -/
def State.setGain (ch : Fin 4) (g : Nat) (s : State) : State :=
  { s with store := { s.store with gains := s.store.gains.set ch g } }

/-- R53: the Meter Unit's answer to GAIN channel,value. -/
def ownGainWrite (channel value : Int) (s : State) : State × Answer :=
  match channelOf channel with
  | none => (s, refuseAt .range 1)
  | some ch =>
    if s.meterBusy then (s, refuse .busy)
    else
      let g := clampNat 8192 32767 value
      (s.setGain ch g, ok [chanF ch, numF g] (clampReport [(2, inRange 8192 32767 value)]))

/-- GAIN channel,value (R53). -/
def execGainWrite (channel value : Int) (s : State) : Out := request .gain (ownGainWrite channel value) s

/-- R53: the Meter Unit's answer to a GAIN query. -/
def ownGainQuery (channel : Option Int) (s : State) : Answer :=
  match channel with
  | none => ok (s.store.gains.toList.map numF)
  | some c =>
    match channelOf c with
    | none => refuseAt .range 1
    | some ch => ok [numF s.store.gains[ch]]

/-- GAIN channel and GAIN (R53). -/
def execGainQuery (channel : Option Int) (s : State) : Out := request .gain (asks (ownGainQuery channel)) s

/-! ## CALB (R57, R60) -/

/-- R57: a calibration is begun. -/
def State.startCalibration (ch : Fin 4) (reference : Nat) (s : State) : State :=
  { s with meter := { s.meter with calibration := some { channel := ch, reference := reference, sum := 0, taken := 0 } } }

/-- R57: the Meter Unit's answer to CALB channel,reference. -/
def ownCalbStart (channel reference : Int) (s : State) : State × Answer :=
  match channelOf channel with
  | none => (s, refuseAt .range 1)
  | some ch =>
    if s.meter.calibration.isSome then (s, refuse .busy)
    else if s.meterBusy then (s, refuse .busy)
    else
      let r := clampNat 1000 60000 reference
      (s.startCalibration ch r, ok [chanF ch, numF r] (clampReport [(2, inRange 1000 60000 reference)]))

/-- CALB channel,reference (R57). -/
def execCalbStart (channel reference : Int) (s : State) : Out := request .calb (ownCalbStart channel reference) s

/-- R60: a last calibration record. -/
def recordFields (r : Option CalRecord) : List RField :=
  [optF (fun x => .word (if CalRecord.ok x then ['O', 'K'] else ['C', 'A', 'L', 'R', 'A', 'N', 'G', 'E'])) r,
   optF (fun x => numF (CalRecord.reference x)) r, optF (fun x => numF (CalRecord.average x)) r,
   optF (fun x => numF (CalRecord.candidate x)) r]

/-- R60: the calibration state. -/
def calibrationFields (c : Option Calibration) : List RField :=
  [.word (if c.isSome then ['R', 'U', 'N', 'N', 'I', 'N', 'G'] else ['I', 'D', 'L', 'E']),
   optF (fun x => chanF (Calibration.channel x)) c, optF (fun x => numF (Calibration.reference x)) c,
   optF (fun x => numF (Calibration.taken x)) c]

/-- R60: the Meter Unit's answer to a CALB query. -/
def ownCalbQuery (channel : Option Int) (s : State) : Answer :=
  match channel with
  | none => ok (calibrationFields s.meter.calibration ++ s.meter.records.toList.flatMap recordFields)
  | some c =>
    match channelOf c with
    | none => refuseAt .range 1
    | some ch => ok (recordFields s.meter.records[ch])

/-- CALB channel and CALB (R60). -/
def execCalbQuery (channel : Option Int) (s : State) : Out := request .calb (asks (ownCalbQuery channel)) s

/-! ## WTCH (R63) -/

/-- R63: a window is replaced whole, and its last trip record becomes absent; `n` is its number less 1. -/
def State.setWindow (n : Nat) (w : Window) (s : State) : State :=
  { s with
    store := { s.store with windows := s.store.windows.setIfInBounds n w }
    meter := { s.meter with trips := s.meter.trips.setIfInBounds n none } }

/-- R63: a window as it is listed, with its last trip. -/
def windowFields (n : Nat) (w : Window) (t : Option Trip) : List RField :=
  [numF n, numF w.mask, numF w.low, numF w.high, optF (fun x => chanF (Trip.channel x)) t,
   optF (fun x => numF (Trip.value x)) t]

/-- R63: the Meter Unit's answer to WTCH n,mask,low,high. -/
def ownWtchWrite (n mask low high : Int) (s : State) : State × Answer :=
  if !inRange 1 3 n then (s, refuseAt .range 1)
  else if !inRange 0 15 mask then (s, refuseAt .range 2)
  else
    let w : Window := { mask := mask.toNat, low := clampNat 0 65535 low, high := clampNat 0 65535 high }
    if w.high < w.low then (s, refuseAt .range 3)
    else if s.cycle.state == .exposing then (s, refuse .busy)
    else
      (s.setWindow (n.toNat - 1) w,
        ok (windowFields n.toNat w none) (clampReport [(3, inRange 0 65535 low), (4, inRange 0 65535 high)]))

/-- WTCH n,mask,low,high (R63). -/
def execWtchWrite (n mask low high : Int) (s : State) : Out := request .wtch (ownWtchWrite n mask low high) s

/-- R63: the window of a number, as it is listed. -/
def State.windowListing (n : Nat) (s : State) : List RField :=
  match s.store.windows[n - 1]? with
  | some w => windowFields n w ((s.meter.trips[n - 1]?).join)
  | none => []

/-- R63: the Meter Unit's answer to a WTCH query. -/
def ownWtchQuery (n : Option Int) (s : State) : Answer :=
  match n with
  | none => ok (s.windowListing 1 ++ s.windowListing 2 ++ s.windowListing 3)
  | some k => if !inRange 1 3 k then refuseAt .range 1 else ok (s.windowListing k.toNat)

/-- WTCH n and WTCH (R63). -/
def execWtchQuery (n : Option Int) (s : State) : Out := request .wtch (asks (ownWtchQuery n)) s

/-! ## READ (R64) -/

/-- R64: a channel's latest reading as READ gives it. -/
def State.readFields (ch : Fin 4) (s : State) : List RField :=
  [chanF ch, optF numF s.meter.latest[ch], optF (fun r => numF (s.corrected ch r)) s.meter.latest[ch],
   optF (fun p => numF (Prod.fst p)) (applyingSlot s.store.slots ch), numF s.store.gains[ch]]

/-- R64: the Meter Unit's answer to READ. -/
def ownRead (channel : Option Int) (s : State) : Answer :=
  match channel with
  | none => ok (s.readFields 0 ++ s.readFields 1 ++ s.readFields 2 ++ s.readFields 3)
  | some c =>
    match channelOf c with
    | none => refuseAt .range 1
    | some ch => ok (s.readFields ch)

/-- READ channel and READ (R64). -/
def execRead (channel : Option Int) (s : State) : Out := request .read (asks (ownRead channel)) s

/-! ## The completion of a reading (R49) -/

/-- READING_COMPLETE: the reading of the channel whose turn it is completes (R49). A sum that no reading can have is no event of
the part. While RESET is held low the reading is dropped and the turn stays: R49 and R65 leave the converter running over a
reset, and R185 lets the part take no stand event (log entry 68). -/
def execReadingComplete (reading : Nat) (s : State) : Out :=
  if reading ≤ 65520 then whenLive (State.readingDone reading) s else .refused .impossibleReading

end Sys2Proof.Machine
end

