-- ==== Sys2Proof/Machine/Orders.lean ====
section
/-! DEFINITION. The requests of the Order Book (chapter 5.1 and 5.2): ORDR, ITEM, POST, HOLD, FREE and CNCL. -/

namespace Sys2Proof.Machine

/-- The order of a number field. -/
def State.orderAt (n : Int) (s : State) : Option Order := if n < 0 then none else s.order n.toNat

/-- R91: an order number is in range. -/
def orderRange (n : Int) : Bool := inRange 1 65535 n

/-- R93, R94: the order book is full, or the item pool is. -/
def State.poolFull (s : State) : Bool := Config.maxItems ≤ s.store.book.itemCount

/-! ## ORDR (R93) -/

/-- R91, R93: a new order. -/
def newOrder (number account : Nat) (cls : OrderClass) : Order where
  number := number
  account := account
  cls := cls
  state := .building
  minimum := none
  running := 0
  items := []

/-- R93: an order is added to the BUILDING orders. -/
def State.addOrder (o : Order) (s : State) : State :=
  s.setBook { s.store.book with building := s.store.book.building ++ [o] }

/-- R93: the Order Book's answer to ORDR order,account,class. -/
def ownOrdrCreate (order account : Int) (cls : Option OrderClass) (s : State) : State × Answer :=
  if !orderRange order then (s, refuseAt .range 1)
  else if !inRange 1 9999 account then (s, refuseAt .range 2)
  else
    match cls with
    | none => (s, refuseAt .range 3)
    | some c =>
      if (s.orderAt order).isSome then (s, refuseAt .dup 1)
      else if (s.account account.toNat).isNone then (s, refuseAt .none 2)
      else if Config.maxOrders ≤ s.store.book.orders.length || s.poolFull then (s, refuse .full)
      else
        (s.addOrder (newOrder order.toNat account.toNat c),
          ok [.num order, .num account, .word (classWord c), .word (OrderState.word .building)])

/-- ORDR order,account,class (R93). -/
def execOrdrCreate (order account : Int) (cls : Option OrderClass) (s : State) : Out :=
  request .ordr (ownOrdrCreate order account cls) s

/-- R91: an order's hold cause. -/
def OrderState.cause : OrderState → Option HoldCause
  | .held c => some c
  | .building => none
  | .waiting => none
  | .active => none
  | .done => none

/-- R91: an order's posting position, its place in the posting list. -/
def Book.position (n : Nat) (b : Book) : Option Nat := (b.posted.findIdx? fun o => o.number == n).map (· + 1)

/-- R93: the fields of one order. -/
def orderFields (b : Book) (o : Order) : List RField :=
  [numF o.number, numF o.account, .word (classWord o.cls), .word o.state.word,
   optF (fun c => .word (HoldCause.word c)) o.state.cause, optF numF (b.position o.number), optF numF o.minimum,
   numF o.running, numF o.items.length] ++
  o.items.flatMap fun i => [numF i.number, .word i.state.word]

/-- R93: the Order Book's answer to an ORDR query. -/
def ownOrdrQuery (order : Option Int) (s : State) : Answer :=
  match order with
  | none => ok (s.store.book.orders.flatMap fun o => [numF o.number, .word o.state.word])
  | some n =>
    if !orderRange n then refuseAt .range 1
    else
      match s.orderAt n with
      | none => refuseAt .none 1
      | some o => ok (orderFields s.store.book o)

/-- ORDR order and ORDR (R93). -/
def execOrdrQuery (order : Option Int) (s : State) : Out := request .ordr (asks (ownOrdrQuery order)) s

/-! ## ITEM (R92, R94) -/

/-- R92: a new item. -/
def newItem (number : Nat) (catalogue title credit : Text) (mode : ItemMode) (plan copies : Nat) : Item where
  number := number
  catalogue := catalogue
  title := title
  credit := credit
  mode := mode
  plan := plan
  copies := copies
  state := .pending
  cancelPending := false
  captured := none
  rates := none
  estimate := 0
  stored := none
  currentSet := none
  steps := none
  setsDone := 0
  kept := 0
  rejected := 0
  spoiled := 0
  labels := 0

/-- R94: an item's mode with its value clamped; a MANUAL item's lamp is COPY when it is left out. -/
def itemMode (mode : Source) (value : Int) (lamp : Option Light) : ItemMode :=
  match mode with
  | .copy => .copy (clampInt (-24) 48 value)
  | .stage => .stage (clampInt (-24) 48 value)
  | .manual => .manual (clampNat 0 191 value) (lamp.getD .copy)

/-- R94: the value of an item is in its range. -/
def itemValueOk (mode : Source) (value : Int) : Bool :=
  match mode with
  | .copy => inRange (-24) 48 value
  | .stage => inRange (-24) 48 value
  | .manual => inRange 0 191 value

/-- R94: the stored value of an item's mode. -/
def ItemMode.value : ItemMode → Int
  | .copy f => f
  | .stage f => f
  | .manual l _ => l

/-- R94: the checks of a BUILDING order's new item, in order, after the order has been found: the refusal, or the mode. -/
def State.checkItem (o : Order) (catalogue title credit : Text) (mode : Option Source) (plan copies : Int)
    (lamp : Option (Option Light)) (s : State) : Except Answer Source :=
  if o.state != .building then .error (refuseAt .state 1)
  else if 20 < catalogue.length then .error (refuseAt .range 2)
  else if 60 < title.length then .error (refuseAt .range 3)
  else if 40 < credit.length then .error (refuseAt .range 4)
  else
    match mode with
    | none => .error (refuseAt .range 5)
    | some m =>
      if !inRange 0 7 plan then .error (refuseAt .range 7)
      else if (s.plan plan.toNat).isNone then .error (refuseAt .none 7)
      else if !inRange 1 4 copies then .error (refuseAt .range 8)
      else if m == .manual && lamp == some none then .error (refuseAt .range 9)
      else if Config.maxOrderItems ≤ o.items.length || s.poolFull then .error (refuse .full)
      else .ok m

/-- R94: the Order Book's answer to ITEM with an item's fields. -/
def ownItemAdd (order : Int) (catalogue title credit : Text) (mode : Option Source) (value plan copies : Int)
    (lamp : Option (Option Light)) (s : State) : State × Answer :=
  if !orderRange order then (s, refuseAt .range 1)
  else
    match s.orderAt order with
    | none => (s, refuseAt .none 1)
    | some o =>
      match s.checkItem o catalogue title credit mode plan copies lamp with
      | .error a => (s, a)
      | .ok m =>
        let it := newItem (o.items.length + 1) catalogue title credit (itemMode m value lamp.join) plan.toNat copies.toNat
        (s.updateOrder o.number fun q => { q with items := q.items ++ [it] },
          ok [.dotted [o.number, it.number], .word (sourceWord m), .num it.mode.value, numF it.plan, numF it.copies]
            (clampReport [(6, itemValueOk m value)]))

/-- ITEM order,catalogue,title,credit,mode,value,plan,copies[,lamp] (R94). -/
def execItemAdd (order : Int) (catalogue title credit : Text) (mode : Option Source) (value plan copies : Int)
    (lamp : Option (Option Light)) (s : State) : Out :=
  request .item (ownItemAdd order catalogue title credit mode value plan copies lamp) s

/-- R92, R94: the filter adjustment, the manual log and the lamp of a mode; the fields the mode has not are empty. -/
def ItemMode.fields : ItemMode → List RField
  | .copy f => [.num f, .empty, .empty]
  | .stage f => [.num f, .empty, .empty]
  | .manual l lamp => [.empty, numF l, .word (lightWord lamp)]

/-- R92, R94: the captured rates, in the order of R92. -/
def ratesFields (r : Option Rates) : List RField :=
  [optF (fun x => numF (Rates.frame x)) r, optF (fun x => numF (Rates.reject x)) r, optF (fun x => numF (Rates.spoil x)) r,
   optF (fun x => numF (Rates.label x)) r, optF (fun x => numF (Rates.rush x)) r]

/-- R94: the step statuses, one letter per step. -/
def stepsField (l : Option (List StepStatus)) : RField := optF (fun x => .word (x.map StepStatus.letter)) l

/-- R94: the fields of an item, in the order of R92. Its cancel pending and its METER_HIGH mark are Y or N (log entry 77). -/
def Item.fields (it : Item) : List RField :=
  [.text it.catalogue, .text it.title, .text it.credit, .word (sourceWord it.mode.source)] ++ it.mode.fields ++
  [numF it.plan, numF it.copies, .word it.state.word, yesNo it.cancelPending] ++
  (match it.captured with
    | some l => l.map .num
    | none => [.empty]) ++
  ratesFields it.rates ++
  [numF it.estimate, optF (fun x => numF (StoredLight.light x)) it.stored, optF (fun x => yesNo (StoredLight.high x)) it.stored,
   optF numF it.currentSet, stepsField it.steps, numF it.setsDone, numF it.kept, numF it.rejected, numF it.spoiled,
   numF it.labels]

/-- R94: the Order Book's answer to ITEM order,item. -/
def ownItemQuery (order item : Int) (s : State) : Answer :=
  if !orderRange order then refuseAt .range 1
  else
    match s.orderAt order with
    | none => refuseAt .none 1
    | some o =>
      if !inRange 1 24 item then refuseAt .range 2
      else
        match o.item item.toNat with
        | none => refuseAt .none 2
        | some it => ok it.fields

/-- ITEM order,item (R94). -/
def execItemQuery (order item : Int) (s : State) : Out := request .item (asks (ownItemQuery order item)) s

/-! ## POST (R95) -/

/-- R95: a BUILDING order becomes WAITING at the end of the posting list. -/
def State.postOrder (o : Order) (s : State) : State :=
  s.setBook
    { posted := s.store.book.posted ++ [{ o with state := .waiting }]
      building := s.store.book.building.filter fun q => q.number != o.number }

/-- R95: the Order Book's answer to POST. -/
def ownPost (order : Int) (s : State) : State × Answer :=
  if !orderRange order then (s, refuseAt .range 1)
  else
    match s.orderAt order with
    | none => (s, refuse .none)
    | some o =>
      if o.state != .building || o.items.isEmpty then (s, refuseAt .state 1)
      else ((s.postOrder o).selectIfWaiting, ok [numF o.number, numF (s.store.book.posted.length + 1)])

/-- POST order (R95). -/
def execPost (order : Int) (s : State) : Out := request .post (ownPost order) s

/-! ## HOLD and FREE (R98) -/

/-- An order's state is rewritten. -/
def State.setOrderState (n : Nat) (st : OrderState) (s : State) : State := s.updateOrder n fun q => { q with state := st }

/-- R98: the Order Book's answer to HOLD. -/
def ownHold (order : Int) (s : State) : State × Answer :=
  match s.orderAt order with
  | none => (s, refuse .none)
  | some o =>
    match o.state with
    | .building => (s, refuse .state)
    | .done => (s, refuse .state)
    | .active => (s, refuse .busy)
    | .waiting => (s.setOrderState o.number (.held .host), ok [])
    | .held _ => (s.setOrderState o.number (.held .host), ok [])

/-- HOLD order (R98). -/
def execHold (order : Int) (s : State) : Out := request .hold (ownHold order) s

/-- R98: the Order Book's answer to FREE. -/
def ownFree (order : Int) (s : State) : State × Answer :=
  match s.orderAt order with
  | none => (s, refuse .none)
  | some o =>
    match o.state with
    | .held _ => ((s.setOrderState o.number .waiting).selectIfWaiting, ok [])
    | .building => (s, refuse .state)
    | .waiting => (s, refuse .state)
    | .active => (s, refuse .state)
    | .done => (s, refuse .state)

/-- FREE order (R98). -/
def execFree (order : Int) (s : State) : Out := request .free (ownFree order) s

/-! ## CNCL (R99) -/

/-- R99: the effect of a CNCL on the ACTIVE item by the cycle state, and whether the cancellation waits. -/
def State.cancelActive (o : Nat) (it : Item) (s : State) : State × Bool :=
  match s.cycle.state with
  | .exposing => (s.updateItem o it.number fun i => { i with cancelPending := true }, true)
  | .winding => (s.updateItem o it.number fun i => { i with cancelPending := true }, true)
  | .metering => ((s.withdrawMetering.endActive o it true).select, false)
  | .place => ((s.endActive o it true).select, false)
  | .warmup => ((s.endActive o it true).select, false)
  | .stopped => (s.endActive o it true, false)
  | .waiting _ => (s.endActive o it true, false)
  | .halted _ _ => ((s.endActive o it true).enterStopped, false)

/-- R99: the reply: the order, the number of items cancelled at once, and PENDING when the ACTIVE item's cancellation waits. -/
def cancelReply (order : Nat) (count : Nat) (waits : Bool) : Answer :=
  ok ([numF order, numF count] ++ if waits then [.word ItemState.pending.word] else [])

/-- R99: every PENDING item of an order becomes CANCELLED at once. -/
def State.cancelPendings (o : Order) (s : State) : State :=
  (o.items.filter fun i => i.state == .pending).foldl (fun t i => t.cancelPendingItem o.number i.number) s

/-- R99: the Order Book's answer to CNCL order. Its PENDING items are cancelled also when the ACTIVE item's cancel pending is yes
already (log entry 70). -/
def ownCnclOrder (order : Int) (s : State) : State × Answer :=
  if !orderRange order then (s, refuse .range)
  else
    match s.orderAt order with
    | none => (s, refuse .none)
    | some o =>
      if o.state == .building then (s.removeOrder o.number, cancelReply o.number 0 false)
      else if !o.items.any fun i => i.state == .pending || i.state == .active then (s, refuse .state)
      else
        let n := (o.items.filter fun i => i.state == .pending).length
        let t := s.cancelPendings o
        match o.activeItem with
        | none => (t, cancelReply o.number n false)
        | some it =>
          match t.cancelActive o.number it with
          | (u, waits) => (u, cancelReply o.number (if waits then n else n + 1) waits)

/-- CNCL order (R99). -/
def execCnclOrder (order : Int) (s : State) : Out := request .cncl (ownCnclOrder order) s

/-- R99: the Order Book's answer to CNCL order,item. -/
def ownCnclItem (order item : Int) (s : State) : State × Answer :=
  if !orderRange order || !inRange 1 24 item then (s, refuse .range)
  else
    match s.orderAt order with
    | none => (s, refuse .none)
    | some o =>
      match o.item item.toNat with
      | none => (s, refuse .none)
      | some it =>
        if o.state == .building then (s, refuse .state)
        else
          match it.state with
          | .pending => (s.cancelPendingItem o.number it.number, cancelReply o.number 1 false)
          | .active =>
            match s.cancelActive o.number it with
            | (u, waits) => (u, cancelReply o.number (if waits then 0 else 1) waits)
          | .done => (s, refuse .state)
          | .cancelled => (s, refuse .state)
          | .settled => (s, refuse .state)

/-- CNCL order,item (R99). -/
def execCnclItem (order item : Int) (s : State) : Out := request .cncl (ownCnclItem order item) s

end Sys2Proof.Machine
end

