-- ==== Sys2Proof/Machine/Stand.lean ====
section
/-! DEFINITION. The requests and events of the Stand Cycle Controller (chapter 5.4 and 5.5): RUN, GO, LITE, CYCL, PAUS, ABRT, RSUM,
the footswitch and the expiry of the warm-up. -/

namespace Sys2Proof.Machine

/-! ## RUN and GO (R104, R105) -/

/-- R104: the controller's answer to RUN: the reply gives the state the selection led to. -/
def ownRun (s : State) : State × Answer :=
  if s.cycle.state != .stopped || s.shutter.phase != .idle then (s, refuse .busy)
  else
    let t := s.select
    (t, ok [.word t.cycle.state.word])

/-- RUN (R104). -/
def execRun (s : State) : Out := request .run ownRun s

/-- R105, R106: from PLACE, the cycle enters WARMUP for the ACTIVE item's lamp. -/
def State.warmActive (s : State) : State :=
  match s.active with
  | some (_, it) => s.enterWarmup it.mode.lamp
  | none => s

/-- R105: the controller's answer to GO. -/
def ownGo (s : State) : State × Answer := if s.cycle.state == .place then (s.warmActive, ok []) else (s, refuse .busy)

/-- GO (R105). -/
def execGo (s : State) : Out := request .go ownGo s

/-- FOOTSWITCH_PRESS: FOOT has been low for 20 ms after being high; it is acted on in PLACE only (R105). -/
def execFootswitchPress (s : State) : Out := whenLive (fun t => if t.cycle.state == .place then t.warmActive else t) s

/-- R106: the warm-up timer expires: the lamp is warm, and the controller goes forward. -/
def State.warmupDone (s : State) : State :=
  match s.active with
  | some (_, it) =>
    (s.withCycle fun y =>
      { y.setLamp it.mode.lamp { y.lamp it.mode.lamp with warm := true } with warmTimer := none }).forward
  | none => s.withCycle fun y => { y with warmTimer := none }

/-- WARMUP_EXPIRY (R106). -/
def execWarmupExpiry (s : State) : Out := whenLive (fun t => if t.cycle.warmTimer.isSome then t.warmupDone else t) s

/-! ## LITE and CYCL (R101, R102) -/

/-- R102: the cycle states in which LITE is taken. -/
def CycleState.litable : CycleState → Bool
  | .stopped => true
  | .waiting _ => true
  | .place => true
  | .halted _ _ => true
  | .warmup => false
  | .metering => false
  | .exposing => false
  | .winding => false

/-- R102: a lamp is switched by hand. -/
def State.lite (l : Light) (on : Bool) (s : State) : State :=
  s.withCycle fun y => y.setLamp l (if on then (y.lamp l).switchOn else .off)

/-- R102: the controller's answer to LITE lamp,state. -/
def ownLiteSet (lamp : Option Light) (state : Option Bool) (s : State) : State × Answer :=
  match lamp, state with
  | some l, some on => if s.cycle.state.litable then (s.lite l on, ok []) else (s, refuse .busy)
  | none, _ => (s, refuse .range)
  | some _, none => (s, refuse .range)

/-- LITE lamp,state (R102). -/
def execLiteSet (lamp : Option Light) (state : Option Bool) (s : State) : Out := request .lite (ownLiteSet lamp state) s

/-- R101, R102: a lamp's state and warm flag, the flag as Y or N (log entry 77). -/
def LampState.fields (x : LampState) : List RField :=
  [.word (if x.on then ['O', 'N'] else ['O', 'F', 'F']), yesNo x.warm]

/-- R102: both lamps. -/
def ownLiteQuery (s : State) : Answer := ok (s.cycle.copyLamp.fields ++ s.cycle.stageLamp.fields)

/-- LITE (R102). -/
def execLiteQuery (s : State) : Out := request .lite (asks ownLiteQuery) s

/-- R101: the halt roll of a cycle state. -/
def CycleState.haltRollField : CycleState → RField
  | .halted _ r => optF numF r
  | .waiting _ => .empty
  | .stopped => .empty
  | .place => .empty
  | .warmup => .empty
  | .metering => .empty
  | .exposing => .empty
  | .winding => .empty

/-- R101: the ACTIVE item's fields of CYCL, with its cancel pending as Y or N (log entry 77). -/
def activeFields (a : Option (Order × Item)) : List RField :=
  match a with
  | some (o, it) =>
    [.dotted [o.number, it.number], yesNo it.cancelPending, optF numF it.currentSet, numF it.setsDone,
     optF (fun x => .word (x.map StepStatus.letter)) it.steps]
  | none => [.empty, .empty, .empty, .empty, .empty]

/-- R101: the controller's answer to CYCL. -/
def ownCycl (s : State) : Answer :=
  ok ([.word s.cycle.state.word, s.cycle.state.causeField, s.cycle.state.haltRollField,
       if s.cycle.pause then .word ['P'] else .empty] ++
      activeFields s.active ++ s.cycle.copyLamp.fields ++ s.cycle.stageLamp.fields)

/-- CYCL (R101). -/
def execCycl (s : State) : Out := request .cycl (asks ownCycl) s

/-! ## PAUS, ABRT and RSUM (R112, R113, R115) -/

/-- R112: a pause becomes pending. -/
def State.setPause (s : State) : State := s.withCycle fun y => { y with pause := true }

/-- R112: the controller's answer to PAUS. In WAITING, PLACE and WARMUP the cycle enters STOPPED also when an earlier pause is still
pending (log entry 76). -/
def ownPaus (s : State) : State × Answer :=
  match s.cycle.state with
  | .stopped => (s, ok [])
  | .waiting _ => (s.enterStopped, ok [])
  | .place => (s.enterStopped, ok [])
  | .warmup => (s.enterStopped, ok [])
  | .metering => (s.setPause, ok [])
  | .exposing => (s.setPause, ok [])
  | .winding => (s.setPause, ok [])
  | .halted _ _ => (s, refuse .busy)

/-- PAUS (R112). -/
def execPaus (s : State) : Out := request .paus ownPaus s

/-- R113: the controller's answer to ABRT. -/
def ownAbrt (s : State) : State × Answer := (s.abortAll, ok [])

/-- ABRT (R113). -/
def execAbrt (s : State) : Out := request .abrt ownAbrt s

/-- R115: the open roll is LOADED. -/
def State.rollLoaded (s : State) : Bool :=
  match s.openRoll with
  | some r => r.state == .loaded
  | none => false

/-- R115: the refusal of an RSUM whose condition is not met. -/
def State.resumeRefusal (c : HaltCause) (haltRoll : Option Nat) (s : State) : Option Code :=
  match c with
  | .rollEnd => if s.rollReady then none else some .state
  | .jam => if s.rollReady && s.openRoll.map (·.number) != haltRoll then none else some .state
  | .slip => if s.rollReady && s.openRoll.map (·.number) != haltRoll then none else some .state
  | .tableFull => if s.freeRecords == 0 then some .full else if s.rollLoaded then none else some .state
  | .lamp => if s.rollLoaded then none else some .state
  | .shutOpen => if s.rollLoaded then none else some .state
  | .shutClose => if s.rollLoaded then none else some .state

/-- R115: an ACTIVE item goes on with its queue, or from PLACE when the queue is empty. -/
def State.resumeItem (o : Order) (it : Item) (s : State) : State :=
  if s.contexts.isEmpty then s.enterPlace o.number it.number else s.enterWarmup it.mode.lamp

/-- R115: where an accepted RSUM takes the cycle. -/
def State.resume (c : HaltCause) (s : State) : State :=
  match c with
  | .rollEnd =>
    match s.active with
    | some (o, it) => s.resumeItem o it
    | none => s.select
  | .jam =>
    match s.active with
    | some (o, it) => s.resumeItem o it
    | none => s.select
  | .slip =>
    match s.active with
    | some (o, it) => s.resumeItem o it
    | none => s.select
  | .tableFull =>
    if s.gateFrame.isNone then s.enterWinding
    else
      match s.active with
      | some (o, it) => s.resumeItem o it
      | none => s.select
  | .lamp =>
    match s.active with
    | some (_, it) => s.enterWarmup it.mode.lamp
    | none => s.select
  | .shutOpen =>
    match s.active with
    | some (_, it) => s.enterWarmup it.mode.lamp
    | none => s.select
  | .shutClose =>
    match s.active with
    | some (_, it) => s.enterWarmup it.mode.lamp
    | none => s.select

/-- R115: the controller's answer to RSUM. -/
def ownRsum (s : State) : State × Answer :=
  match s.cycle.state with
  | .halted c r =>
    match s.resumeRefusal c r with
    | some code => (s, refuse code)
    | none => (s.resume c, ok [])
  | .stopped => (s, refuse .busy)
  | .waiting _ => (s, refuse .busy)
  | .place => (s, refuse .busy)
  | .warmup => (s, refuse .busy)
  | .metering => (s, refuse .busy)
  | .exposing => (s, refuse .busy)
  | .winding => (s, refuse .busy)

/-- RSUM (R115). -/
def execRsum (s : State) : Out := request .rsum ownRsum s

end Sys2Proof.Machine
end

