-- ==== Sys2Proof/Machine/Writes.lean ====
section
/-! DEFINITION. The retained writes of a command, one by one (R179): the store as each of them leaves it, in the order in which the
rules make them. A power-fail warning that falls inside a step finds the store as the last write completed left it (R180). Every
operation of the part that makes more than one retained write has its double here, which ends in the same state and keeps the
stores that it passed through. What is one write follows R179, and log entry 61 where the rules leave it open. -/

namespace Sys2Proof.Machine

/-- R179: work in progress: the state as it stands, and the store as each retained write of the work left it, oldest first. -/
structure Writing where
  now : State
  made : List Store
  deriving DecidableEq, Repr

/-- R179: work that begins. -/
def Writing.begin (s : State) : Writing where
  now := s
  made := []

/-- A change that makes no retained write. -/
def Writing.move (f : State → State) (w : Writing) : Writing := { w with now := f w.now }

/-- R179: a change that is one retained write. -/
def Writing.write (f : State → State) (w : Writing) : Writing where
  now := f w.now
  made := w.made ++ [(f w.now).store]

/-- R179: a change whose retained writes leave the stores that the changes `parts` would leave, and then its own. -/
def Writing.writes (parts : List (State → State)) (f : State → State) (w : Writing) : Writing where
  now := f w.now
  made := w.made ++ (parts.map fun p => (p w.now).store) ++ [(f w.now).store]

/-! ## The Charge Unit -/

/-- R160: the final check of an order. A MINIMUM entry and the removal of its order are one write (log entry 61). -/
def Writing.finalCheck (n : Nat) (w : Writing) : Writing :=
  match w.now.order n with
  | some o =>
    if o.items.all fun i => i.state == .settled then
      match o.minimumDue with
      | some due => if w.now.journalRoom then w.write (State.writeMinimum o due) else w.move (State.queueWait (.minimum n))
      | none => w.write (State.removeOrder n)
    else w
  | none => w

/-- R160: the last item of an order is SETTLED and no MINIMUM entry is due. -/
def State.settledOut (n : Nat) (s : State) : Bool :=
  match s.order n with
  | some o => (o.items.all fun i => i.state == .settled) && o.minimumDue.isNone
  | none => false

/-- R159: a settlement, "taken whole", is one write with the removal of an order that it leaves complete. A MINIMUM entry that its
final check writes is a write of its own (R165, log entry 61). -/
def Writing.settleItem (o : Order) (it : Item) (w : Writing) : Writing :=
  if (w.now.settleRecord o it).settledOut o.number then
    w.write fun s => (s.settleRecord o it).removeOrder o.number
  else (w.write (State.settleRecord o it)).finalCheck o.number

/-- R157: the Charge Unit looks at an item. -/
def Writing.lookItem (o i : Nat) (w : Writing) : Writing :=
  match w.now.order o with
  | none => w
  | some q =>
    match q.item i with
    | none => w
    | some it =>
      if w.now.itemSettleable o it && !w.now.itemWaits o i then
        if !it.needsEntry || w.now.journalRoom then w.settleItem q it else w.move (State.queueWait (.item o i))
      else w

/-- R162: a place of the waiting list is worked. -/
def Writing.workPlace (p : Waiting) (w : Writing) : Writing :=
  match p with
  | .item o i =>
    match w.now.order o with
    | none => w
    | some q => match q.item i with
      | none => w
      | some it => w.settleItem q it
  | .minimum n =>
    match w.now.order n with
    | none => w
    | some o => match o.minimumDue with
      | some due => w.write (State.writeMinimum o due)
      | none => w.write (State.removeOrder n)

/-- R162: the waiting list is worked, as `workWaiting` does. -/
def Writing.workWaiting : Nat → Writing → Writing
  | 0, w => w
  | fuel + 1, w =>
    match w.now.waiting with
    | [] => w
    | p :: rest =>
      if w.now.journalRoom then
        Writing.workWaiting fuel ((w.move fun s => { s with waiting := rest }).workPlace p)
      else w

/-- R162: the waiting list is worked. -/
def Writing.workList (w : Writing) : Writing := Writing.workWaiting (2 * w.now.waiting.length) w

/-- R162: the waiting list is rebuilt. -/
def Writing.rebuildWaiting (w : Writing) : Writing :=
  let items := w.now.store.book.posted.flatMap fun o =>
    (o.items.filter fun i => i.state == .done || i.state == .cancelled).map fun i => (o.number, i.number)
  let orders := (w.now.store.book.posted.filter fun o =>
    o.state == .done && o.items.all fun i => i.state == .settled).map (·.number)
  let v := items.foldl (fun u p => u.lookItem p.1 p.2) (w.move fun s => { s with waiting := [] })
  orders.foldl (fun u n => u.finalCheck n) v

/-! ## The Order Book and the selection -/

/-- R97: a PENDING item is cancelled. -/
def Writing.cancelPendingItem (o i : Nat) (w : Writing) : Writing :=
  ((w.write (State.setItemEnd o i true)).move (State.raise (.done o i true))).lookItem o i

/-- R97: the ACTIVE item ends: the discard of the queue and the end of the item are a write each. -/
def Writing.endActive (o : Nat) (it : Item) (cancelled : Bool) (w : Writing) : Writing :=
  ((((w.move (State.withCycle Cycle.lampsOff)).write State.discardQueue).write (State.setItemEnd o it.number cancelled)).move
    (State.raise (.done o it.number cancelled))).lookItem o it.number

/-- R110, R113: an ACTIVE item whose cancel pending is yes ends CANCELLED. -/
def Writing.endCancelPending (w : Writing) : Writing :=
  match w.now.active with
  | some (o, it) => if it.cancelPending then w.endActive o.number it true else w
  | none => w

/-- R100, R156: the scan of the given orders: each hold is a write, and so is the admission, with its captures. -/
def Writing.scanOrders : List Nat → Writing → Writing × Option (Nat × Nat)
  | [], w => (w, none)
  | n :: rest, w =>
    match w.now.offer n with
    | (t, some p) => (w.write fun _ => t, some p)
    | (t, none) => Writing.scanOrders rest (w.write fun _ => t)

/-- R100: a selection. -/
def Writing.select (w : Writing) : Writing :=
  if w.now.rollReady then
    match w.now.active with
    | some (o, it) => w.move (State.enterPlace o.number it.number)
    | none =>
      match w.scanOrders w.now.scanList with
      | (v, some (o, i)) => v.move (State.enterPlace o i)
      | (v, none) => v.move (State.enterWaiting .noItem)
  else w.move (State.enterWaiting .noRoll)

/-- R103: a selection, made when the cycle is WAITING. -/
def Writing.selectIfWaiting (w : Writing) : Writing := if w.now.cycle.isWaiting then w.select else w

/-- R99: a CNCL and the ACTIVE item. -/
def Writing.cancelActive (o : Nat) (it : Item) (w : Writing) : Writing :=
  match w.now.cycle.state with
  | .exposing => w.write fun s => (s.cancelActive o it).1
  | .winding => w.write fun s => (s.cancelActive o it).1
  | .metering => ((w.move State.withdrawMetering).endActive o it true).select
  | .place => (w.endActive o it true).select
  | .warmup => (w.endActive o it true).select
  | .stopped => w.endActive o it true
  | .waiting _ => w.endActive o it true
  | .halted _ _ => (w.endActive o it true).move State.enterStopped

/-- R99: every PENDING item of an order is cancelled. -/
def Writing.cancelPendings (o : Order) (w : Writing) : Writing :=
  (o.items.filter fun i => i.state == .pending).foldl (fun u i => u.cancelPendingItem o.number i.number) w

/-- R98: the first `k` posted orders have been looked at in the release of an account. -/
def State.releaseFirst (account k : Nat) (s : State) : State :=
  s.setBook { s.store.book with
    posted := ((s.store.book.posted.take k).map fun o =>
      if o.heldForAccount account then { o with state := .waiting } else o) ++ s.store.book.posted.drop k }

/-- R98: the release of an account: each order returned to WAITING is a write. -/
def Writing.release (account : Nat) (w : Writing) : Writing :=
  if w.now.releasesAny account then
    (w.writes ((List.range w.now.store.book.posted.length).map (State.releaseFirst account))
      (State.releaseOrders account)).selectIfWaiting
  else w

/-! ## The outcomes of an exposure that move no film (R87) -/

/-- R179: the gate frame of an exposure becomes SPOILED, before the Order Book counts it. -/
def State.spoilFrame (cause : FrameCause) (c : Context) (measured : Option Nat) (s : State) : State :=
  match s.gateFrame with
  | some f => s.setFrame (f.spoil cause c measured)
  | none => s

/-- R109: the controller takes a fault outcome. -/
def Writing.reportFault (c : HaltCause) (w : Writing) : Writing :=
  if w.now.cycle.state == .exposing then w.endCancelPending.move (State.halt c) else w

/-- R87, R179: the outcome LAMP: frame, step and marker are one write; the Order Book's count and the discard of the queue
follow. -/
def Writing.outcomeLamp (c : Context) (w : Writing) : Writing :=
  (((w.writes
    [fun s => ((s.spoilFrame .lamp c (some s.shutter.ticks)).setStep c.ref .pending).clearMarker,
     fun s => ((s.spoilGate .lamp c (some s.shutter.ticks)).setStep c.ref .pending).clearMarker]
    fun s => (((s.spoilGate .lamp c (some s.shutter.ticks)).setStep c.ref .pending).discardQueue.clearMarker).shutterIdle
      (some s.shutter.ticks)).lookItem c.ref.order c.ref.item)).reportFault .lamp

/-- R87: the outcome SHUT_OPEN, which writes no frame. -/
def Writing.outcomeShutOpen (c : Context) (w : Writing) : Writing :=
  ((w.move fun s => (s.returnContext c false).shutterIdle none).lookItem c.ref.order c.ref.item).reportFault .shutOpen

/-- R87, R179: the outcome SHUT_CLOSE: frame, step and marker are one write, and the Order Book's count follows. -/
def Writing.outcomeShutClose (c : Context) (measured : Option Nat) (dropped : Bool) (w : Writing) : Writing :=
  ((w.writes [fun s => ((s.spoilFrame .shutClose c measured).returnContext c dropped).clearMarker]
    fun s => (((s.spoilGate .shutClose c measured).returnContext c dropped).clearMarker).shutterIdle measured).lookItem
      c.ref.order c.ref.item).reportFault .shutClose

/-- R84: an exposure of the gate frame is asked. -/
def Writing.beginExposure (w : Writing) : Writing :=
  match w.now.contexts, w.now.shutter.phase with
  | c :: rest, .idle =>
    if w.now.shutter.contactOpen then
      (w.move fun s => { s with contexts := rest, shutter := { s.shutter with held := some c } }).outcomeShutClose c none false
    else w.move State.beginExposure
  | _, _ => w

/-- R109: the cycle enters EXPOSING. -/
def Writing.enterExposing (w : Writing) : Writing :=
  (w.move (State.withCycle fun y => { y with state := .exposing })).beginExposure

/-- R107: going forward with a context queued and the gate frame POSITIONED. -/
def Writing.exposeOrWarm (l : Light) (w : Writing) : Writing :=
  if (w.now.cycle.lamp l).warm then w.enterExposing else w.move (State.enterWarmup l)

/-- R107, R179: a MANUAL item with an empty queue is filled, in one write. -/
def Writing.fillManual (it : Item) (w : Writing) : Writing :=
  if w.now.contexts.isEmpty && it.mode.source == .manual then w.write (State.fill .manual) else w

/-- R107: going forward when the gate frame is POSITIONED. -/
def Writing.forwardAtGate (w : Writing) : Writing :=
  match w.now.active with
  | none => w
  | some (_, it) =>
    let v := w.fillManual it
    if !v.now.contexts.isEmpty then v.exposeOrWarm it.mode.lamp
    else if it.mode.source == .manual then v
    else v.move (State.meterOrWarm it)

/-! ## Advances (chapter 2) -/

/-- R110: the stand cycle takes the POSITIONED end of its advance. -/
def Writing.windingPositioned (w : Writing) : Writing :=
  let v := w.endCancelPending
  if v.now.cycle.pause then v.move State.enterStopped
  else match v.now.active with
    | none => v.select
    | some _ => v.forwardAtGate

/-- R110: the stand cycle takes the end of its advance. -/
def Writing.windingEnd (e : AdvanceEnd) (w : Writing) : Writing :=
  if w.now.cycle.state == .winding then
    match e with
    | .positioned => w.windingPositioned
    | _ =>
      match e.haltCause with
      | some c => w.endCancelPending.move (State.halt c)
      | none => w
  else w

/-- R116: the end of a WIND advance. -/
def Writing.windEnd (e : AdvanceEnd) (w : Writing) : Writing :=
  match e with
  | .positioned => w.selectIfWaiting
  | _ => w.move (State.windEnd e)

/-- R16: the end of a threading: a threading fault is one write. -/
def Writing.threadingEnd (e : AdvanceEnd) (w : Writing) : Writing :=
  match e with
  | .positioned => w.selectIfWaiting
  | _ => w.write (State.threadingEnd e)

/-- The end of an advance is reported to its requester. -/
def Writing.reportAdvance (req : Requester) (e : AdvanceEnd) (w : Writing) : Writing :=
  match req with
  | .cycle => w.windingEnd e
  | .wind => w.windEnd e
  | .load => w.threadingEnd e

/-- R42: an advance fails. -/
def Writing.failAdvance (e : AdvanceEnd) (w : Writing) : Writing :=
  match w.now.transport.advance with
  | none => w
  | some a =>
    let e' := if a.phase == .stepping (some .abort) then .aborted else e
    (w.move State.endAdvance).reportAdvance a.requester e'

/-- R6, R43: the roll becomes ENDED. -/
def Writing.endRoll (req : Requester) (r : Roll) (w : Writing) : Writing :=
  ((w.move State.endAdvance).write (State.changeRoll r .ended)).reportAdvance req .ended

/-- R43: a LIMIT ends the open roll. -/
def Writing.endOpenRoll (req : Requester) (w : Writing) : Writing :=
  match w.now.openRoll with
  | some r => w.endRoll req r
  | none => w.move State.endAdvance

/-- R10, R179: a POSITIONED frame is one write with the last completed stop count; the roll's entry to LOADED and the discard of
another film's contexts follow. -/
def Writing.createPositioned (r : Roll) (count : Int) (noted : Bool) (w : Writing) : Writing :=
  let v := w.write fun s => s.readStop.createFrame r .positioned (some count) none noted
  if r.state == .threading then (v.write (State.changeRoll r.gain .loaded)).write (State.compareReload r.film) else v

/-- R40, R41: the end of the settle. -/
def Writing.judgeStop (req : Requester) (dest : Int) (noted : Bool) (w : Writing) : Writing × Bool :=
  let c := w.now.transport.count
  match w.now.openRoll with
  | none => (w.write fun s => s.readStop.endAdvance, false)
  | some r =>
    if r.over then ((w.write State.readStop).endRoll req r, false)
    else if w.now.freeRecords == 0 then (((w.write State.readStop).move State.endAdvance).reportAdvance req .tableFull, false)
    else if inGate w.now.store.conf.gateTol dest c then
      (((w.createPositioned r c noted).move State.endAdvance).reportAdvance req .positioned, false)
    else (w.write fun s => s.readStop.createFrame r .void none (some .misreg) noted, true)

/-- R38: an advance takes its aim, as `takeAim` does: each VOID (ZONE) record is a write of its own (R179). -/
def Writing.takeAim : Nat → Requester → Writing → Writing
  | 0, _, w => w
  | fuel + 1, req, w =>
    match w.now.openRoll with
    | none => w.move State.endAdvance
    | some r =>
      if r.over then w.endRoll req r
      else if w.now.freeRecords == 0 then (w.move State.endAdvance).reportAdvance req .tableFull
      else
        let dest := r.destination w.now.cpf
        match w.now.store.classify dest (dest + w.now.cpf - 1) with
        | some .leader => Writing.takeAim fuel req (w.write fun s => s.createFrame r .void none (some .zone) false)
        | some .splice => Writing.takeAim fuel req (w.write fun s => s.createFrame r .void none (some .zone) false)
        | k =>
          let noted := k == some .note
          if w.now.transport.count < dest then w.move (State.beginStepping req dest noted)
          else
            let v := w.move (State.beginSettle req dest noted)
            if w.now.store.conf.settle == 0 then
              match v.judgeStop req dest noted with
              | (u, true) => Writing.takeAim fuel req u
              | (u, false) => u
            else v

/-- R38: an advance takes its aim. -/
def Writing.aim (req : Requester) (w : Writing) : Writing := Writing.takeAim aimFuel req w

/-- R40, R41: the settle ends. -/
def Writing.settleEnd (a : Advance) (w : Writing) : Writing :=
  match w.judgeStop a.requester a.dest a.noted with
  | (v, true) => v.aim a.requester
  | (v, false) => v

/-- R37: an advance is asked of the transport. -/
def Writing.startAdvance (req : Requester) (w : Writing) : Writing :=
  match w.now.transport.advance, w.now.openRoll with
  | none, some r =>
    if r.state == .ended || w.now.gateFrame.isSome then w
    else if !r.positionValid then w.reportAdvance req .jam
    else (w.move (State.rebuildLimit r)).aim req
  | _, _ => w

/-- R110: the cycle enters WINDING. -/
def Writing.enterWinding (w : Writing) : Writing :=
  (w.move (State.withCycle fun y => { y with state := .winding })).startAdvance .cycle

/-- R107: going forward. -/
def Writing.forward (w : Writing) : Writing :=
  match w.now.active with
  | none => w
  | some (_, it) =>
    let v := w.fillManual it
    if !v.now.contexts.isEmpty && v.now.gateFrame.isNone then v.enterWinding else v.forwardAtGate

/-- R40: stepping has ended at a STOP. -/
def Writing.settleAfterStop (a : Advance) (w : Writing) : Writing :=
  let b := { a with phase := .settling w.now.store.conf.settle }
  let v := w.move fun s => { s with transport := { s.transport with advance := some b } }
  if w.now.store.conf.settle == 0 then v.settleEnd b else v

/-- R34: the step timer expires during stepping. -/
def Writing.stepExpiry (a : Advance) (ending : Option StepEnd) (w : Writing) : Writing :=
  let driven := w.move fun s => { s with transport := s.transport.driveStep }
  match ending with
  | none =>
    let b := a.afterStep
    let v := w.move fun s => { s with transport := { (s.transport.driveStep).feed s.store with advance := some b } }
    if b.stalled w.now.store.conf.stall then v.failAdvance .jam else v
  | some .stop => driven.settleAfterStop a
  | some .limit => driven.endOpenRoll a.requester
  | some .abort => (driven.move State.endAdvance).reportAdvance a.requester .aborted

/-- R43: a LIMIT that fires during settle. -/
def Writing.limitInSettle (w : Writing) : Writing :=
  match w.now.transport.advance with
  | some a =>
    match a.phase with
    | .settling _ => w.endOpenRoll a.requester
    | .stepping _ => w
  | none => w

/-- R24, R27: a count event that raises the count within its range. -/
def Writing.countUp (w : Writing) : Writing :=
  let c := w.now.transport.count + 1
  let marks := w.now.transport.firedMarks c
  let limit := fires w.now.transport.limit c
  let v := w.move fun s => { s with transport := s.transport.rise }
  (if limit then v.limitInSettle else v).move (raiseMarks marks)

/-- R25: the count becomes held: the open roll's position becomes invalid, and an advance in flight fails. -/
def Writing.holdCount (w : Writing) : Writing :=
  let v := w.move fun s => { s with transport := { s.transport with held := true } }
  let u := match v.now.openRoll with
    | some r => v.write (State.setRoll { r with positionValid := false })
    | none => v
  u.failAdvance .jam

/-- R24, R25: a count event. -/
def Writing.countEvent (up : Bool) (w : Writing) : Writing :=
  if w.now.transport.held then w
  else if up then (if Config.countMax ≤ w.now.transport.count then w.holdCount else w.countUp)
  else if w.now.transport.count ≤ Config.countMin then w.holdCount
  else w.move State.countDown

/-- R24: the encoder lines change. -/
def Writing.encoderChange (a b a' b' : Bool) (w : Writing) : Writing :=
  match encoderCounts w.now.store.conf.encoder a b a' b' with
  | some up => w.countEvent up
  | none => w

/-- R26: a rising edge of INDEX. -/
def Writing.indexEdge (w : Writing) : Writing :=
  let c := w.now.transport.count
  let i := w.now.transport.index
  match i.state with
  | .starting => w.move State.indexEdge
  | .running =>
    if w.now.transport.advance.isSome then
      let v := w.move (State.setIndex { i with reference := c })
      if slips w.now.cpf w.now.store.conf.slipTol (c - i.reference) then v.failAdvance .slip else v
    else w.move State.indexEdge

/-- R34: the step timer expires. -/
def Writing.stepTimer (w : Writing) : Writing :=
  match w.now.transport.advance with
  | some a =>
    match a.phase with
    | .stepping ending => w.stepExpiry a ending
    | .settling _ => w
  | none => w

/-- R40: the settle timer expires. -/
def Writing.settleTimer (w : Writing) : Writing :=
  match w.now.transport.advance with
  | some a =>
    match a.phase with
    | .settling _ => w.settleEnd a
    | .stepping _ => w
  | none => w

/-! ## The NORMAL outcome, the shutter's events and ABRT -/

/-- R179: the gate frame of an exposure becomes EXPOSED, before the Order Book counts it. -/
def State.exposeFrame (c : Context) (measured : Nat) (s : State) : State :=
  match s.gateFrame with
  | some f => s.setFrame (f.expose c measured (s.singleStep c))
  | none => s

/-- R109, R116: the set accounting of a NORMAL outcome. -/
def Writing.countNormal (r : ItemRef) (ask : Bool) (w : Writing) : Writing :=
  match w.now.item r.order r.item with
  | none => w
  | some it =>
    if it.state == .active && it.setComplete then
      if it.cancelPending then w.write (State.updateItem r.order r.item fun i => { i with setsDone := i.setsDone + 1 })
      else if it.setsDone + 1 < it.copies then
        let v := w.write (State.updateItem r.order r.item Item.nextSet)
        if ask then v.write (State.fill (setFill it)) else v
      else
        (w.write (State.updateItem r.order r.item fun i => { i with setsDone := i.setsDone + 1 })).endActive r.order it false
    else w

/-- R109, R116: the controller takes a NORMAL outcome. -/
def Writing.reportNormal (r : ItemRef) (w : Writing) : Writing :=
  if w.now.cycle.state == .exposing then (w.countNormal r true).enterWinding else w.countNormal r false

/-- R87, R179: the outcome NORMAL: frame, step and marker are one write, and the Order Book's count follows. -/
def Writing.outcomeNormal (c : Context) (w : Writing) : Writing :=
  ((w.writes [fun s => ((s.exposeFrame c s.shutter.ticks).setStep c.ref .done).clearMarker]
    fun s => (((s.exposeGate c s.shutter.ticks).setStep c.ref .done).clearMarker).shutterIdle (some s.shutter.ticks)).lookItem
      c.ref.order c.ref.item).reportNormal c.ref

/-- R87: the contact closes in CLOSING. -/
def Writing.closingDone (pending : Option PendingOutcome) (w : Writing) : Writing :=
  match pending, w.now.shutter.held with
  | some .normal, some c => w.outcomeNormal c
  | some .lamp, some c => w.outcomeLamp c
  | _, _ => w.move fun s => s.shutterIdle s.shutter.measured

/-- R87: the close timeout expires in CLOSING. -/
def Writing.closingLate (pending : Option PendingOutcome) (aborted : Bool) (w : Writing) : Writing :=
  match pending, w.now.shutter.held with
  | some _, some c => w.outcomeShutClose c (some w.now.shutter.ticks) aborted
  | _, _ => w.move fun s => s.shutterIdle s.shutter.measured

/-- R86: the contact closes in OPEN before the expiry. -/
def Writing.earlyClose (w : Writing) : Writing :=
  match w.now.shutter.held with
  | some c => (w.move State.closeCommand).outcomeNormal c
  | none => w

/-- R83, R86, R87: a contact-closed event. -/
def Writing.contactCloses (w : Writing) : Writing :=
  if w.now.shutter.contactOpen then
    let v := w.move fun s => { s with shutter := { s.shutter with contactOpen := false } }
    match w.now.shutter.phase with
    | .opened => v.earlyClose
    | .closing p _ => v.closingDone p
    | .idle => v
    | .opening => v
  else w

/-- R85: the open timeout expires. -/
def Writing.openTimeout (w : Writing) : Writing :=
  match w.now.shutter.phase, w.now.shutter.held with
  | .opening, some c => w.outcomeShutOpen c
  | _, _ => w

/-- R87: the close timeout expires. -/
def Writing.closeTimeout (w : Writing) : Writing :=
  match w.now.shutter.phase with
  | .closing p aborted => w.closingLate p aborted
  | .idle => w
  | .opening => w
  | .opened => w

/-- R44: ABRT and the advance in flight. -/
def Writing.abortAdvance (w : Writing) : Writing :=
  match w.now.transport.advance with
  | none => w
  | some a =>
    match a.phase with
    | .stepping _ => w.move State.abortAdvance
    | .settling _ => (w.move State.endAdvance).reportAdvance a.requester .aborted

/-- R88, R179: ABRT and an exposure: the frame, the step and the marker are one write, and the Order Book's count follows. -/
def Writing.abortExposure (w : Writing) : Writing :=
  match w.now.shutter.phase with
  | .idle => w
  | .opening => w.write State.abortExposure
  | .opened =>
    match w.now.shutter.held with
    | some c =>
      w.writes [fun s => ((s.spoilFrame .abort c (some s.shutter.ticks)).setStep c.ref .pending).clearMarker] State.abortExposure
    | none => w.write State.abortExposure
  | .closing _ _ => w.move State.abortExposure

/-- R113: ABRT stops everything in flight. -/
def Writing.abortAll (w : Writing) : Writing :=
  ((((w.abortAdvance.move State.withdrawMetering).abortExposure).write State.discardQueue).endCancelPending).move
    State.enterStopped

/-! ## Readings -/

/-- R58: a calibration's gain is one write. -/
def Writing.offerCalibration (ch : Fin 4) (r : Nat) (w : Writing) : Writing := w.write (State.offerCalibration ch r)

/-- R54, R108: a metering completes. -/
def Writing.completeMetering (m : Metering) (sum : Nat) (w : Writing) : Writing :=
  let averaged := sum / m.samples
  let light := w.now.corrected m.channel averaged
  let v := (w.move State.withdrawMetering).write (State.fill (.metering averaged light))
  if v.now.cycle.pause then v.move State.enterStopped else v.forward

/-- R54: a completed reading is offered to a metering. -/
def Writing.offerMetering (was : Option Metering) (ch : Fin 4) (r : Nat) (w : Writing) : Writing :=
  match was, w.now.meter.metering with
  | some u, some m =>
    if u.begun && m.channel == ch then
      if m.samples ≤ m.taken + 1 then w.completeMetering m (m.sum + r) else w.move (State.offerMetering was ch r)
    else w
  | _, _ => w

/-- R49: a reading completes. -/
def Writing.readingDone (r : Nat) (w : Writing) : Writing :=
  let ch := w.now.meter.turn
  let was := w.now.meter.metering
  let v := w.move fun s => { s with meter := { s.meter with latest := s.meter.latest.set ch (some r), turn := nextTurn ch } }
  ((v.offerCalibration ch r).offerMetering was ch r).move (State.judgeWindows ch r)

/-- R106: the warm-up timer expires. -/
def Writing.warmupDone (w : Writing) : Writing :=
  match w.now.active with
  | some (_, it) =>
    (w.move (State.withCycle fun y =>
      { y.setLamp it.mode.lamp { y.lamp it.mode.lamp with warm := true } with warmTimer := none })).forward
  | none => w.move State.warmupDone

/-! ## Labels -/

/-- R143: step 1 and 2 of the completion of a QUEUE label. -/
def Writing.printedFrame (f : Frame) (w : Writing) : Writing :=
  let marked := w.write (State.markPrinted f)
  let looked := match f.ref with
    | some r => marked.lookItem r.order r.item
    | none => marked
  looked.write (State.checkRoll f.roll)

/-- R143: the label in hand is complete. -/
def Writing.completeLabel (h : LabelHand) (w : Writing) : Writing :=
  let v := w.move (State.withPrinter fun p => { p with rows := Config.presentRows })
  let u := match h.kind with
    | .queue => match v.now.frameAt h.roll h.frame with
      | some f => v.printedFrame f
      | none => v.move (State.withPrinter fun p => { p with queue := p.queue.tail })
    | .rprt => v
  u.move (State.afterLabel h)

/-- R143: a row step in PRESENTING completes. -/
def Writing.presentRow (w : Writing) : Writing :=
  match w.now.printer.state, w.now.printer.hand with
  | .presenting, some h =>
    if Config.presentRows ≤ w.now.printer.rows + 1 then w.completeLabel h else w.move State.presentRow
  | _, _ => w

/-! ## Requests -/

/-- Whether an answer accepts its request. -/
def Answer.accepts : Answer → Bool
  | .accept _ _ _ => true
  | .refuse _ _ => false

/-- R15: the roll record and the roll counter are one write of the Frame Table, and the zone table another, of the transport. -/
def Writing.load (film : Int) (length : Option Int) (w : Writing) : Writing :=
  let r := w.now.newRoll film.toNat (length.map (clampNat 1 Config.maxRollFrames))
  (w.writes [fun s => { s with store := { s.store with rolls := s.store.rolls ++ [r], rollCounter := r.number } }]
    (State.loadRoll r)).startAdvance .load

/-- R17: the gate frame's VOID and the roll's new state. -/
def Writing.unload (w : Writing) : Writing :=
  match w.now.openRoll with
  | some r =>
    ((w.write (State.voidGate .unload)).write fun s =>
      s.changeRoll r (if s.rollSettleable r.number then .settled else .closed)).move State.gateLost
  | none => w

/-- R12, R22, R23: a set is decided: the frames are one write ("taken as one"), the item's counters another, and then come the
Charge Unit's look and each roll check. -/
def Writing.decide (r : ItemRef) (named : Frame → Bool) (w : Writing) : Writing :=
  let all := w.now.store.frames.filter fun f => f.decides r
  let kept := (all.filter named).length
  let rolls := w.now.touchedRolls r
  let v := ((w.write fun s => { s with store := { s.store with frames := decideFrames r named s.store.frames } }).write
    (State.updateItem r.order r.item (Item.countDecisions kept (all.length - kept)))).lookItem r.order r.item
  rolls.foldl (fun u n => u.write (State.checkRoll n)) v

/-- R22, R23: PICK and RJCT. -/
def Writing.pick (frames : List (Int × Int)) (named : Frame → Bool) (w : Writing) : Writing :=
  match w.now.checkPick frames with
  | .ok r => w.decide r named
  | .error _ => w

/-- R46: the gate frame's VOID, and the advance. -/
def Writing.wind (w : Writing) : Writing := (w.write (State.voidGate .wind)).startAdvance .wind

/-- R95: an order is posted. -/
def Writing.post (order : Int) (w : Writing) : Writing :=
  match w.now.orderAt order with
  | some o => (w.write (State.postOrder o)).selectIfWaiting
  | none => w

/-- R98: an order is freed. -/
def Writing.free (order : Int) (w : Writing) : Writing :=
  match w.now.orderAt order with
  | some o => (w.write (State.setOrderState o.number .waiting)).selectIfWaiting
  | none => w

/-- R99: CNCL order. -/
def Writing.cancelOrder (order : Int) (w : Writing) : Writing :=
  match w.now.orderAt order with
  | some o =>
    if o.state == .building then w.write (State.removeOrder o.number)
    else
      let v := w.cancelPendings o
      match o.activeItem with
      | some it => v.cancelActive o.number it
      | none => v
  | none => w

/-- R99: CNCL order,item. -/
def Writing.cancelItem (order item : Int) (w : Writing) : Writing :=
  match (w.now.orderAt order).bind fun o => (o.item item.toNat).map fun it => (o.number, it) with
  | some (o, it) => if it.state == .active then w.cancelActive o it else w.cancelPendingItem o it.number
  | none => w

/-- R115: where an accepted RSUM takes the cycle. -/
def Writing.resume (w : Writing) : Writing :=
  match w.now.cycle.state with
  | .halted c _ =>
    if c == .tableFull && w.now.gateFrame.isNone then w.enterWinding
    else if w.now.active.isNone then w.select
    else w.move (State.resume c)
  | _ => w

/-- R153: an ACCT write, and the release that it may make. -/
def Writing.acctWrite (own : State → State × Answer) (account : Int) (name : Text) (cls : Int)
    (allowance : Option (Option Int)) (state : Option (Option AcctState)) (w : Writing) : Writing :=
  match w.now.account account.toNat with
  | some a =>
    let b := a.rewrite name cls.toNat (allowance.map fun o => o.map clampAllowance) state.join
    let v := w.write (State.updateAccount a.number fun _ => b)
    if b.releasedBy a then v.release a.number else v
  | none => w.write fun s => (own s).1

/-- R154: a new period, and the release of the account. -/
def Writing.zero (account : Int) (w : Writing) : Writing :=
  match w.now.account account.toNat with
  | some a => (w.write (State.updateAccount a.number Account.newPeriod)).release a.number
  | none => w

/-- R163: the removal of a TAKE is one write, and the waiting list is worked with the writes of R165 (log entry 73). -/
def Writing.take (n : Int) (w : Writing) : Writing :=
  let taken := (w.now.store.journal.take n.toNat).length
  if taken == 0 then w else (w.write (State.dropEntries taken)).workList

/-- R88: at a reset, the pending outcome of a closing is given at once. -/
def Writing.resetClosing (w : Writing) : Writing :=
  match w.now.shutter.phase with
  | .closing p _ => w.closingDone p
  | .idle => w
  | .opening => w
  | .opened => w

/-- R149, R185: the queued labels return to NONE "in one change", and the film-end switch, read afresh, may give a tail. -/
def Writing.resetBlocks (w : Writing) : Writing := w.writes [State.clearQueued] State.resetBlocks

/-- R185: a reset. -/
def Writing.resetAll (w : Writing) : Writing := w.abortAll.resetClosing.resetBlocks

/-- R178, R185, R186: RSET. -/
def Writing.rset (w : Writing) : Writing :=
  ((w.move State.clearNotices).resetAll.move State.startDiscard).write
    (State.setStartRecord fun r => { r with kind := .rset })

/-- R179: the work of a request that is accepted, for the requests that can make more than one retained write; the others have
made none, or all, when a warning falls. -/
def Writing.accepted (i : Instr) (w : Writing) : Writing :=
  let when (own : State → State × Answer) (v : Writing) : Writing := if (own w.now).2.accepts then v else w
  match i with
  | .load film length => when (ownLoad film length) (w.load film length)
  | .unld => when ownUnld w.unload
  | .pick frames => w.pick frames (namedIn frames)
  | .rjct roll frame => w.pick [(roll, frame)] fun _ => false
  | .wind => when ownWind w.wind
  | .post order => when (ownPost order) (w.post order)
  | .free order => when (ownFree order) (w.free order)
  | .cnclOrder order => when (ownCnclOrder order) (w.cancelOrder order)
  | .cnclItem order item => when (ownCnclItem order item) (w.cancelItem order item)
  | .run => when ownRun w.select
  | .abrt => w.abortAll
  | .rsum => when ownRsum w.resume
  | .acctWrite account name cls allowance state =>
    when (ownAcctWrite account name cls allowance state)
      (w.acctWrite (ownAcctWrite account name cls allowance state) account name cls allowance state)
  | .zero account => when (ownZero account) (w.zero account)
  | .take n => when (ownTake n) (w.take n)
  | .wipe all => when (ownWipe all) w.abortAll
  | .rset => w.rset
  | .drop _ | .fram _ _ | .rollList | .rollQuery _ | .markRegister _ _ | .markRemove _ | .markList | .zoneWrite _ | .zoneClear
  | .zoneList | .rampWrite _ _ _ | .rampList _ | .confWrite _ | .confQuery _ | .confList | .offsWrite _ _ _ | .offsEmpty _
  | .offsList | .gainWrite _ _ | .gainQuery _ | .calbStart _ _ | .calbQuery _ | .wtchWrite _ _ _ _ | .wtchQuery _ | .read _
  | .filmWrite _ _ _ _ _ | .filmQuery _ | .planWrite _ _ | .planQuery _ | .trimWrite _ _ | .trimQuery _ | .ctxq
  | .calc _ _ _ _ _ | .ordrCreate _ _ _ | .ordrQuery _ | .itemAdd _ _ _ _ _ _ _ _ _ | .itemQuery _ _ | .hold _ | .go
  | .liteSet _ _ | .liteQuery | .cycl | .paus | .glyfLoad _ _ | .glyfQuery _ | .emblWindow _ _ _ _ | .emblClear | .emblQuery
  | .dots _ | .ltxt _ _ | .prnt _ | .pstp | .rprt _ _ | .densWrite _ | .densQuery | .lque | .rateWrite _ _ _ _ _ _ _
  | .rateQuery _ | .tierWrite _ | .tierClear | .tierList | .acctQuery _ | .acctRemove _ | .takeState | .stat | .mems
  | .countEvent _ _ | .indexEdge | .filmEndChange _ | .stepTimerExpiry | .stallLimit | .settleExpiry | .readingComplete _
  | .footswitchPress | .warmupExpiry | .contactOpen | .openTimeout | .plannedTicksExpiry | .contactClosed | .closeTimeout
  | .feedRowStep | .feedRowLimit | .labelEdge | .strobeEnd | .rowTransferComplete | .printPaperStep | .presentRowStep
  | .labelComplete | .paperOut | .paperIn | .paperWaitExpiry | .waitingListWork | .characterReceived _ _ | .lineComplete
  | .partialLineTimeout | .overrunLineEnd | .overrunLineTimeout | .dispatch | .lineSent | .powerFailWarning | .powerOn
  | .wipeColdStart | .resetLine | .resetRelease | .vccFailure | .batteryExhausted => w

/-- R179: a request, when it can be taken. -/
def Writing.request (i : Instr) (w : Writing) : Writing :=
  if w.now.canTake then (w.move State.reserveTx).accepted i else w

/-- R170: a dispatch of the oldest full slot. -/
def Writing.dispatch (w : Writing) : Writing :=
  if w.now.canTake then
    match takeOldest w.now.link.slots with
    | some (x, rest) =>
      if x.state == .timedOut then w
      else
        match x.check with
        | .error _ => w
        | .ok (_, i) => (w.move fun s => { s with link := { s.link with slots := rest } }).request i
    | none => w
  else w

/-! ## Starts (R181, R183) -/

/-- R181: a cold start: the validity marker is invalid until every retained item and block has its cold-start value. -/
def Writing.cold (kind : StartKind) (w : Writing) : Writing :=
  let invalid (s : State) : State := { s with store := { s.store with valid := false } }
  w.writes [invalid, fun s => invalid (State.cold kind s.lines s.pending)] fun s => State.cold kind s.lines s.pending

/-- R183 step 3: the ACTIVE item's QUEUED steps return to PENDING, and an item whose cancel pending is yes ends CANCELLED. -/
def Writing.warmItem (w : Writing) : Writing :=
  match w.now.active with
  | some (o, it) => (w.write (State.updateItem o.number it.number Item.unqueueSteps)).endCancelPending
  | none => w

/-- R183: a warm start. In its first step the labels return to NONE in one write, and the film-end switch, read afresh, may give a
tail in another. -/
def Writing.warm (w : Writing) : Writing :=
  let count := w.now.store.lastStop
  let v := w.writes [State.clearQueued] State.warmBlocks
  let gate := v.now.treatedGate
  ((v.write State.treatGate).warmItem.rebuildWaiting).write
    (State.setStartRecord fun r => { r with kind := .warm, gate := gate, count := some count })

/-- R181: the start that a power-on makes. -/
def Writing.powerOn (w : Writing) : Writing := if w.now.store.valid then w.warm else w.cold .cold

/-! ## Every command -/

/-- R179: the work of a command whose step holds more than one retained write; each of the others makes one at most. -/
def Writing.command (i : Instr) (w : Writing) : Writing :=
  let live (v : Writing) : Writing := if w.now.live then v else w
  match i with
  | .countEvent a b =>
    live ((w.move fun s => { s with lines := { s.lines with enca := a, encb := b } }).encoderChange w.now.lines.enca
      w.now.lines.encb a b)
  | .indexEdge => live w.indexEdge
  | .stepTimerExpiry => live w.stepTimer
  | .stallLimit => live (if w.now.stallDue then w.stepTimer else w)
  | .settleExpiry => live w.settleTimer
  | .readingComplete r => if r ≤ 65520 then live (w.readingDone r) else w
  | .warmupExpiry => live (if w.now.cycle.warmTimer.isSome then w.warmupDone else w)
  | .openTimeout => live w.openTimeout
  | .contactClosed => live (w.move fun s => { s with lines := { s.lines with scontOpen := false } }).contactCloses
  | .closeTimeout => live w.closeTimeout
  | .presentRowStep => live w.presentRow
  | .labelComplete => live (if w.now.printer.rows + 1 == Config.presentRows then w.presentRow else w)
  | .waitingListWork => live w.workList
  | .dispatch => w.dispatch
  | .powerOn => if w.now.supply == .running then w else w.powerOn
  | .wipeColdStart => if w.now.live && w.now.wipeDue then w.cold .wipe else w
  | .resetLine => live w.resetAll
  | .filmEndChange _ | .footswitchPress | .contactOpen | .plannedTicksExpiry | .feedRowStep | .feedRowLimit | .labelEdge
  | .strobeEnd | .rowTransferComplete | .printPaperStep | .paperOut | .paperIn | .paperWaitExpiry | .characterReceived _ _
  | .lineComplete | .partialLineTimeout | .overrunLineEnd | .overrunLineTimeout | .lineSent | .powerFailWarning | .resetRelease
  | .vccFailure | .batteryExhausted => w
  | i => w.request i

/-- R179: the store after each retained write of a command, in their order. -/
def State.writesOf (i : Instr) (s : State) : List Store := ((Writing.begin s).command i).made

/-- R180: the store that a power-fail warning finds when it falls inside the step of the command that waits behind it: the number
of that step's writes which came before it is free (log entry 52). It is none when the step had made no write. -/
def State.cutStore (s : State) : Option Store :=
  match s.pending, Config.writesBefore s.lines.falls with
  | i :: _, k + 1 => (s.writesOf i)[k]?
  | _, _ => none

end Sys2Proof.Machine
end

