-- ==== Sys2Proof/Machine/Power.lean ====
section
/-! DEFINITION. The events at the supply and the reset line (chapter 10): the power-fail warning, the failure of VCC, the
exhaustion of the battery, power-on, the cold start of a WIPE, and the fall and rise of RESET. -/

namespace Sys2Proof.Machine

/-- R180, R186: a power-fail warning that finds the given store. -/
def State.warnWith (st : Store) (s : State) : State := ((s.takeWarning st).outputsOff).setStartRecord StartRecord.warn

/-- POWER_FAIL_WARNING: PFW falls (R180). It is taken while the part runs, with RESET low as well (R185), and during a start. It
comes before the step of the command that waits behind it, or inside that step, and the store then holds the writes that the step
had made (R179, R181, R183). -/
def execPowerFailWarning (s : State) : Out :=
  .next (match s.cutStore with
    | some st => s.warnWith st
    | none => if s.supply == .running then s.warnWith s.store else s)

/-- VCC_FAILURE: VCC fails after the warning, and the part stops (R180). -/
def execVccFailure (s : State) : Out := .next (if s.supply == .warned then s.powerLost else s)

/-- BATTERY_EXHAUSTED: the battery is exhausted or absent while the supply is off, and the validity marker is invalid (R181). -/
def execBatteryExhausted (s : State) : Out :=
  .next (if s.supply == .off then { s with store := { s.store with valid := false } } else s)

/-- R181: the start that a power-on makes, by the validity marker. -/
def State.powerOn (s : State) : State :=
  if s.store.valid then s.warm else State.cold .cold s.lines s.pending

/-- POWER_ON: VCC is in range and PFW has been high for 100 ms (R180, R181). -/
def execPowerOn (s : State) : Out := .next (if s.supply == .running then s else s.powerOn)

/-- WIPE_COLD_START: the last character of the WIPE reply has been sent, and the cold start is made (R182). -/
def execWipeColdStart (s : State) : Out :=
  .next (if s.live && s.wipeDue then State.cold .wipe s.lines s.pending else s)

/-- RESET_LINE: RESET has been low for 10 µs (R185). -/
def execResetLine (s : State) : Out :=
  .next (if s.live then { s.resetAll.linkReset with resetLow := true } else s)

/-- RESET_RELEASE: RESET rises, the part runs again, and the start record is written (R185, R186). -/
def execResetRelease (s : State) : Out :=
  .next (if s.supply == .running && s.resetLow then
    { s with resetLow := false }.setStartRecord fun r => { r with kind := .resetLine }
  else s)

end Sys2Proof.Machine
end

