-- ==== Sys2Proof/Machine/Receiving.lean ====
section
/-! DEFINITION. The events of the Line Link (chapter 9): received characters, the ends and timeouts of lines, the dispatch of a
full slot, and the end of a sent line. -/

namespace Sys2Proof.Machine

/-! ## Receiving (R167 to R169) -/

/-- R166, R167: a received character: CR ends a line, LF is ignored, and any other is a character of a line. A character with a
framing error is neither. -/
def Link.receive (c : Byte) (framing : Bool) (l : Link) : Link :=
  if framing then l.character c true
  else if c == 10 then l
  else if c == 13 then l.lineEnd
  else l.character c false

/-- CHARACTER_RECEIVED (R167). -/
def execCharacterReceived (c : Byte) (framing : Bool) (s : State) : Out :=
  whenLive (State.withLink (Link.receive c framing)) s

/-- LINE_COMPLETE: the CR of a line FILLING a slot, which becomes READY (R167). -/
def execLineComplete (s : State) : Out :=
  whenLive (State.withLink fun l => if l.filling.isSome then l.lineEnd else l) s

/-- R169: a slot that has been FILLING for 2 s without a character becomes TIMED_OUT and loses its characters. -/
def LineSlot.timeOut (x : LineSlot) : LineSlot :=
  { x with state := .timedOut, chars := [], count := 0, badHead := false, tooLong := false, malformed := false }

/-- R169, R178: the partial-line timeout of the line that is arriving: a stored line is timed out, and a line that is being
discarded is at its end. -/
def Link.partialTimeout (l : Link) : Link :=
  if l.filling.isSome then l.updateFilling LineSlot.timeOut
  else if l.lost == some .discarded then { l with lost := none }
  else l

/-- PARTIAL_LINE_TIMEOUT (R169). -/
def execPartialLineTimeout (s : State) : Out := whenLive (State.withLink Link.partialTimeout) s

/-- R168: the end of an overrun line, when one is arriving. -/
def Link.overrunEnd (l : Link) : Link := if l.lost == some .overrun then l.endOverrun else l

/-- OVERRUN_LINE_END: the CR of an overrun line (R168). -/
def execOverrunLineEnd (s : State) : Out := whenLive (State.withLink Link.overrunEnd) s

/-- OVERRUN_LINE_TIMEOUT: an overrun line stops arriving for 2 s, and is ended at that moment (R169). -/
def execOverrunLineTimeout (s : State) : Out := whenLive (State.withLink Link.overrunEnd) s

/-! ## Dispatch (R170) -/

/-- R170: the owner that a dispatched request is handed to. An event is never dispatched. -/
def takeRequest (i : Instr) (s : State) : Out :=
  match i with
  | .load film length => execLoad film length s
  | .unld => execUnld s
  | .drop roll => execDrop roll s
  | .fram roll frame => execFram roll frame s
  | .rollList => execRollList s
  | .rollQuery roll => execRollQuery roll s
  | .pick frames => execPick frames s
  | .rjct roll frame => execRjct roll frame s
  | .markRegister n count => execMarkRegister n count s
  | .markRemove n => execMarkRemove n s
  | .markList => execMarkList s
  | .zoneWrite entries => execZoneWrite entries s
  | .zoneClear => execZoneClear s
  | .zoneList => execZoneList s
  | .rampWrite length first intervals => execRampWrite length first intervals s
  | .rampList first => execRampList first s
  | .wind => execWind s
  | .confWrite setting => execConfWrite setting s
  | .confQuery field => execConfQuery field s
  | .confList => execConfList s
  | .offsWrite slot channel value => execOffsWrite slot channel value s
  | .offsEmpty slot => execOffsEmpty slot s
  | .offsList => execOffsList s
  | .gainWrite channel value => execGainWrite channel value s
  | .gainQuery channel => execGainQuery channel s
  | .calbStart channel reference => execCalbStart channel reference s
  | .calbQuery channel => execCalbQuery channel s
  | .wtchWrite n mask low high => execWtchWrite n mask low high s
  | .wtchQuery n => execWtchQuery n s
  | .read channel => execRead channel s
  | .filmWrite id name code k recip => execFilmWrite id name code k recip s
  | .filmQuery id => execFilmQuery id s
  | .planWrite id offsets => execPlanWrite id offsets s
  | .planQuery id => execPlanQuery id s
  | .trimWrite source value => execTrimWrite source value s
  | .trimQuery source => execTrimQuery source s
  | .ctxq => execCtxq s
  | .calc film mode value filter plan => execCalc film mode value filter plan s
  | .ordrCreate order account cls => execOrdrCreate order account cls s
  | .ordrQuery order => execOrdrQuery order s
  | .itemAdd order catalogue title credit mode value plan copies lamp =>
    execItemAdd order catalogue title credit mode value plan copies lamp s
  | .itemQuery order item => execItemQuery order item s
  | .post order => execPost order s
  | .hold order => execHold order s
  | .free order => execFree order s
  | .cnclOrder order => execCnclOrder order s
  | .cnclItem order item => execCnclItem order item s
  | .run => execRun s
  | .go => execGo s
  | .liteSet lamp state => execLiteSet lamp state s
  | .liteQuery => execLiteQuery s
  | .cycl => execCycl s
  | .paus => execPaus s
  | .abrt => execAbrt s
  | .rsum => execRsum s
  | .glyfLoad code glyphs => execGlyfLoad code glyphs s
  | .glyfQuery code => execGlyfQuery code s
  | .emblWindow x0 x1 y0 y1 => execEmblWindow x0 x1 y0 y1 s
  | .emblClear => execEmblClear s
  | .emblQuery => execEmblQuery s
  | .dots data => execDots data s
  | .ltxt roll frame => execLtxt roll frame s
  | .prnt roll => execPrnt roll s
  | .pstp => execPstp s
  | .rprt roll frame => execRprt roll frame s
  | .densWrite value => execDensWrite value s
  | .densQuery => execDensQuery s
  | .lque => execLque s
  | .rateWrite cls frame reject spoil label minimum rush => execRateWrite cls frame reject spoil label minimum rush s
  | .rateQuery cls => execRateQuery cls s
  | .tierWrite entries => execTierWrite entries s
  | .tierClear => execTierClear s
  | .tierList => execTierList s
  | .acctWrite account name cls allowance state => execAcctWrite account name cls allowance state s
  | .acctQuery account => execAcctQuery account s
  | .acctRemove account => execAcctRemove account s
  | .zero account => execZero account s
  | .take n => execTake n s
  | .takeState => execTakeState s
  | .stat => execStat s
  | .wipe all => execWipe all s
  | .rset => execRset s
  | .mems => execMems s
  | .countEvent _ _ | .indexEdge | .filmEndChange _ | .stepTimerExpiry | .stallLimit | .settleExpiry | .readingComplete _
  | .footswitchPress | .warmupExpiry | .contactOpen | .openTimeout | .plannedTicksExpiry | .contactClosed | .closeTimeout
  | .feedRowStep | .feedRowLimit | .labelEdge | .strobeEnd | .rowTransferComplete | .printPaperStep | .presentRowStep
  | .labelComplete | .paperOut | .paperIn | .paperWaitExpiry | .waitingListWork | .characterReceived _ _ | .lineComplete
  | .partialLineTimeout | .overrunLineEnd | .overrunLineTimeout | .dispatch | .lineSent | .powerFailWarning | .powerOn
  | .wipeColdStart | .resetLine | .resetRelease | .vccFailure | .batteryExhausted => .next s

/-- What follows an outcome that is a next state. -/
def thenNext (f : State → State) (o : Out) : Out :=
  match o with
  | .next s => .next (f s)
  | .fault e => .fault e
  | .refused r => .refused r

/-- R170: a full slot is dispatched on the state without it. -/
def LineSlot.dispatch (x : LineSlot) (s : State) : Out :=
  thenNext (State.oweOvers x.overrun)
    (if x.state == .timedOut then .next (s.placeReply partReply)
    else
      match x.check with
      | .error a => .next (s.refuseLine x a)
      | .ok (_, i) => takeRequest i s)

/-- DISPATCH: the oldest full slot is dispatched, when a request can be taken (R170). The three moments at which the part tries it
are the sender's to choose: no other step dispatches a slot (log entry 59). -/
def execDispatch (s : State) : Out :=
  if s.canTake then
    match takeOldest s.link.slots with
    | some (x, rest) => x.dispatch { s with link := { s.link with slots := rest } }
    | none => .next s
  else .next s

/-- LINE_SENT: the transmitter finishes a line and chooses the next (R175). -/
def execLineSent (s : State) : Out := whenLive State.lineSent s

end Sys2Proof.Machine
end

