-- ==== Sys2Proof/Machine/Dispatch.lean ====
section
/-! DEFINITION. The dispatcher: one arm for each command. -/

namespace Sys2Proof.Machine

def exec (i : Instr) (s : State) : Host.Outcome State Fault Refusal :=
  match i with
  | .load film length => Sys2Proof.Machine.execLoad film length s
  | .unld => Sys2Proof.Machine.execUnld s
  | .drop roll => Sys2Proof.Machine.execDrop roll s
  | .fram roll frame => Sys2Proof.Machine.execFram roll frame s
  | .rollList => Sys2Proof.Machine.execRollList s
  | .rollQuery roll => Sys2Proof.Machine.execRollQuery roll s
  | .pick frames => Sys2Proof.Machine.execPick frames s
  | .rjct roll frame => Sys2Proof.Machine.execRjct roll frame s
  | .markRegister n count => Sys2Proof.Machine.execMarkRegister n count s
  | .markRemove n => Sys2Proof.Machine.execMarkRemove n s
  | .markList => Sys2Proof.Machine.execMarkList s
  | .zoneWrite entries => Sys2Proof.Machine.execZoneWrite entries s
  | .zoneClear => Sys2Proof.Machine.execZoneClear s
  | .zoneList => Sys2Proof.Machine.execZoneList s
  | .rampWrite length first intervals => Sys2Proof.Machine.execRampWrite length first intervals s
  | .rampList first => Sys2Proof.Machine.execRampList first s
  | .wind => Sys2Proof.Machine.execWind s
  | .confWrite setting => Sys2Proof.Machine.execConfWrite setting s
  | .confQuery field => Sys2Proof.Machine.execConfQuery field s
  | .confList => Sys2Proof.Machine.execConfList s
  | .offsWrite slot channel value => Sys2Proof.Machine.execOffsWrite slot channel value s
  | .offsEmpty slot => Sys2Proof.Machine.execOffsEmpty slot s
  | .offsList => Sys2Proof.Machine.execOffsList s
  | .gainWrite channel value => Sys2Proof.Machine.execGainWrite channel value s
  | .gainQuery channel => Sys2Proof.Machine.execGainQuery channel s
  | .calbStart channel reference => Sys2Proof.Machine.execCalbStart channel reference s
  | .calbQuery channel => Sys2Proof.Machine.execCalbQuery channel s
  | .wtchWrite n mask low high => Sys2Proof.Machine.execWtchWrite n mask low high s
  | .wtchQuery n => Sys2Proof.Machine.execWtchQuery n s
  | .read channel => Sys2Proof.Machine.execRead channel s
  | .filmWrite id name code k recip => Sys2Proof.Machine.execFilmWrite id name code k recip s
  | .filmQuery id => Sys2Proof.Machine.execFilmQuery id s
  | .planWrite id offsets => Sys2Proof.Machine.execPlanWrite id offsets s
  | .planQuery id => Sys2Proof.Machine.execPlanQuery id s
  | .trimWrite source value => Sys2Proof.Machine.execTrimWrite source value s
  | .trimQuery source => Sys2Proof.Machine.execTrimQuery source s
  | .ctxq => Sys2Proof.Machine.execCtxq s
  | .calc film mode value filter plan => Sys2Proof.Machine.execCalc film mode value filter plan s
  | .ordrCreate order account cls => Sys2Proof.Machine.execOrdrCreate order account cls s
  | .ordrQuery order => Sys2Proof.Machine.execOrdrQuery order s
  | .itemAdd order catalogue title credit mode value plan copies lamp => Sys2Proof.Machine.execItemAdd order catalogue title credit mode value plan copies lamp s
  | .itemQuery order item => Sys2Proof.Machine.execItemQuery order item s
  | .post order => Sys2Proof.Machine.execPost order s
  | .hold order => Sys2Proof.Machine.execHold order s
  | .free order => Sys2Proof.Machine.execFree order s
  | .cnclOrder order => Sys2Proof.Machine.execCnclOrder order s
  | .cnclItem order item => Sys2Proof.Machine.execCnclItem order item s
  | .run => Sys2Proof.Machine.execRun s
  | .go => Sys2Proof.Machine.execGo s
  | .liteSet lamp state => Sys2Proof.Machine.execLiteSet lamp state s
  | .liteQuery => Sys2Proof.Machine.execLiteQuery s
  | .cycl => Sys2Proof.Machine.execCycl s
  | .paus => Sys2Proof.Machine.execPaus s
  | .abrt => Sys2Proof.Machine.execAbrt s
  | .rsum => Sys2Proof.Machine.execRsum s
  | .glyfLoad code glyphs => Sys2Proof.Machine.execGlyfLoad code glyphs s
  | .glyfQuery code => Sys2Proof.Machine.execGlyfQuery code s
  | .emblWindow x0 x1 y0 y1 => Sys2Proof.Machine.execEmblWindow x0 x1 y0 y1 s
  | .emblClear => Sys2Proof.Machine.execEmblClear s
  | .emblQuery => Sys2Proof.Machine.execEmblQuery s
  | .dots data => Sys2Proof.Machine.execDots data s
  | .ltxt roll frame => Sys2Proof.Machine.execLtxt roll frame s
  | .prnt roll => Sys2Proof.Machine.execPrnt roll s
  | .pstp => Sys2Proof.Machine.execPstp s
  | .rprt roll frame => Sys2Proof.Machine.execRprt roll frame s
  | .densWrite value => Sys2Proof.Machine.execDensWrite value s
  | .densQuery => Sys2Proof.Machine.execDensQuery s
  | .lque => Sys2Proof.Machine.execLque s
  | .rateWrite cls frame reject spoil label minimum rush => Sys2Proof.Machine.execRateWrite cls frame reject spoil label minimum rush s
  | .rateQuery cls => Sys2Proof.Machine.execRateQuery cls s
  | .tierWrite entries => Sys2Proof.Machine.execTierWrite entries s
  | .tierClear => Sys2Proof.Machine.execTierClear s
  | .tierList => Sys2Proof.Machine.execTierList s
  | .acctWrite account name cls allowance state => Sys2Proof.Machine.execAcctWrite account name cls allowance state s
  | .acctQuery account => Sys2Proof.Machine.execAcctQuery account s
  | .acctRemove account => Sys2Proof.Machine.execAcctRemove account s
  | .zero account => Sys2Proof.Machine.execZero account s
  | .take n => Sys2Proof.Machine.execTake n s
  | .takeState => Sys2Proof.Machine.execTakeState s
  | .stat => Sys2Proof.Machine.execStat s
  | .wipe all => Sys2Proof.Machine.execWipe all s
  | .rset => Sys2Proof.Machine.execRset s
  | .mems => Sys2Proof.Machine.execMems s
  | .countEvent enca encb => Sys2Proof.Machine.execCountEvent enca encb s
  | .indexEdge => Sys2Proof.Machine.execIndexEdge s
  | .filmEndChange isOpen => Sys2Proof.Machine.execFilmEndChange isOpen s
  | .stepTimerExpiry => Sys2Proof.Machine.execStepTimerExpiry s
  | .stallLimit => Sys2Proof.Machine.execStallLimit s
  | .settleExpiry => Sys2Proof.Machine.execSettleExpiry s
  | .readingComplete reading => Sys2Proof.Machine.execReadingComplete reading s
  | .footswitchPress => Sys2Proof.Machine.execFootswitchPress s
  | .warmupExpiry => Sys2Proof.Machine.execWarmupExpiry s
  | .contactOpen => Sys2Proof.Machine.execContactOpen s
  | .openTimeout => Sys2Proof.Machine.execOpenTimeout s
  | .plannedTicksExpiry => Sys2Proof.Machine.execPlannedTicksExpiry s
  | .contactClosed => Sys2Proof.Machine.execContactClosed s
  | .closeTimeout => Sys2Proof.Machine.execCloseTimeout s
  | .feedRowStep => Sys2Proof.Machine.execFeedRowStep s
  | .feedRowLimit => Sys2Proof.Machine.execFeedRowLimit s
  | .labelEdge => Sys2Proof.Machine.execLabelEdge s
  | .strobeEnd => Sys2Proof.Machine.execStrobeEnd s
  | .rowTransferComplete => Sys2Proof.Machine.execRowTransferComplete s
  | .printPaperStep => Sys2Proof.Machine.execPrintPaperStep s
  | .presentRowStep => Sys2Proof.Machine.execPresentRowStep s
  | .labelComplete => Sys2Proof.Machine.execLabelComplete s
  | .paperOut => Sys2Proof.Machine.execPaperOut s
  | .paperIn => Sys2Proof.Machine.execPaperIn s
  | .paperWaitExpiry => Sys2Proof.Machine.execPaperWaitExpiry s
  | .waitingListWork => Sys2Proof.Machine.execWaitingListWork s
  | .characterReceived c framingError => Sys2Proof.Machine.execCharacterReceived c framingError s
  | .lineComplete => Sys2Proof.Machine.execLineComplete s
  | .partialLineTimeout => Sys2Proof.Machine.execPartialLineTimeout s
  | .overrunLineEnd => Sys2Proof.Machine.execOverrunLineEnd s
  | .overrunLineTimeout => Sys2Proof.Machine.execOverrunLineTimeout s
  | .dispatch => Sys2Proof.Machine.execDispatch s
  | .lineSent => Sys2Proof.Machine.execLineSent s
  | .powerFailWarning => Sys2Proof.Machine.execPowerFailWarning s
  | .powerOn => Sys2Proof.Machine.execPowerOn s
  | .wipeColdStart => Sys2Proof.Machine.execWipeColdStart s
  | .resetLine => Sys2Proof.Machine.execResetLine s
  | .resetRelease => Sys2Proof.Machine.execResetRelease s
  | .vccFailure => Sys2Proof.Machine.execVccFailure s
  | .batteryExhausted => Sys2Proof.Machine.execBatteryExhausted s

end Sys2Proof.Machine
end

