-- ==== Sys2Proof/Machine/Step.lean ====
section
/-! DEFINITION. The step of the part: the command at the front of the queue is carried out on the rest of the queue; on an empty
queue one tick of 125 µs passes at the Shutter Timer. -/

namespace Sys2Proof.Machine

/-- With no command waiting, one tick of the Shutter Timer passes while the part runs (R86). DESIGN CHOICE (log entry 5): the
table of commands has no row for a tick. -/
def State.idle (s : State) : State := if s.live then s.shutterTick else s

/-- One step: the command at the front of the queue, on the state with the queue's rest. -/
def step (s : State) : Host.Outcome State Fault Refusal :=
  match s.pending with
  | c :: rest => exec c { s with pending := rest }
  | [] => .next s.idle

/-- The state with the command that a table word spells at the front of its queue. No word spells a command
(Sys2Proof/Decode.lean), so the state is always unchanged. -/
def State.withFetchWord (s : State) (nbits w : Nat) : State :=
  match decodeTableWord nbits w with
  | some c => { s with pending := c :: s.pending }
  | none => s

end Sys2Proof.Machine
end

