-- ==== Sys2Proof/WellFormed.lean ====
section
/-! DEFINITION. Which commands are well formed: the operands that the line and the stand can really carry. A text
field holds printable characters only (00_scope.md, Conventions, Character set; a line with any other character is
malformed, R167), and a reading is a sum of 16 conversions of 12 bits, in 0..65,520 (R49). Every other operand is read
at any value: its owner clamps or refuses it. -/

namespace Sys2Proof

/-- A character that a text field can hold: codes 32 to 126. -/
def printable (c : Char) : Bool := 32 ≤ c.toNat && c.toNat ≤ 126

/-- A text that a text field can hold. -/
def printableText (t : Text) : Bool := t.all printable

/-- R49: the highest sum of 16 conversions of 12 bits. -/
def maxReading : Nat := 65520

/-- The command is one that the line or the stand can give. -/
def Instr.wellFormed : Instr → Bool
  | .filmWrite _ name code _ _ => printableText name && printableText code
  | .itemAdd _ catalogue title credit _ _ _ _ _ =>
      printableText catalogue && printableText title && printableText credit
  | .acctWrite _ name _ _ _ => printableText name
  | .glyfLoad _ glyphs => glyphs.all printableText
  | .dots data => printableText data
  | .readingComplete reading => reading ≤ maxReading
  | _ => true

end Sys2Proof
end

