-- ==== Sys2Proof/Safety.lean ====
section
/-! DEFINITION. What the statements speak of: a state in which a request has been answered, and the invariants that every step
keeps. -/

namespace Sys2Proof.Machine

/-- R170, R175: the state `s` with a request answered: the reply has joined the reply queue, a transmitter that was idle sends
the head of the queue, and a request other than DOTS has ended the DOTS stream (R133). -/
def State.replied (v : Verb) (a : Answer) (s : State) : State :=
  { s with
    link := { s.link with replies := s.link.replies ++ [{ verb := v.text, answer := a }] }
    outbox := { s.outbox with tx := if s.outbox.tx == .idle then .reply else s.outbox.tx }
    composer := if v == .dots then s.composer else { s.composer with stream := none } }

/-- The state with the part's answer, for an event or a request that raises the given notices, oldest first (R174). -/
def State.noticed (l : List Notice) (s : State) : State := { s with outbox := l.foldl (fun o n => o.add n) s.outbox }

/-- R167: what a line slot may hold. -/
def LineSlot.wf (x : LineSlot) : Bool :=
  x.chars.length ≤ x.count && x.count ≤ Config.maxLine && x.chars.all printable && x.overrun ≤ Config.maxOverrun

/-- R167, R170, R174, R175: what the Line Link may hold: two line slots, of which at most one is FILLING and none while a line is
being lost, four replies, one pending notice of each kind, and nothing to send while the transmitter is idle. -/
structure LinkWf (s : State) : Prop where
  slots : s.link.slots.length ≤ Config.maxSlots
  slotWf : s.link.slots.all LineSlot.wf = true
  filling : (s.link.slots.filter fun x => x.state == .filling).length ≤ 1
  lost : s.link.lost.isSome = true → s.link.filling = none
  replies : s.link.replies.length ≤ Config.maxReplies
  notices : (s.outbox.notices.map Notice.kind).Nodup
  idle : s.outbox.tx = .idle → s.link.replies = [] ∧ s.outbox.notices = []

/-- R25: the sprocket count, and the last completed stop count that a warm start sets it to, are in the count's range. -/
structure CountWf (s : State) : Prop where
  countLow : Config.countMin ≤ s.transport.count
  countHigh : s.transport.count ≤ Config.countMax
  stopLow : Config.countMin ≤ s.store.lastStop
  stopHigh : s.store.lastStop ≤ Config.countMax

/-- R47, R55, R90, R106, R166: every stored configuration field lies in its range. -/
def Conf.wf (c : Conf) : Bool :=
  c.leader ≤ 30 && c.tail ≤ 12 && c.slipTol ≤ cpfOf c.encoder / 2 && c.gateTol ≤ cpfOf c.encoder / 2 - 1 &&
  c.slowDist ≤ cpfOf c.encoder - 1 && c.settle ≤ 500 && 16 ≤ c.stall && c.stall ≤ 1000 && 4 ≤ c.samples && c.samples ≤ 64 &&
  10 ≤ c.openTo && c.openTo ≤ 500 && 10 ≤ c.closeTo && c.closeTo ≤ 500 && c.warmup ≤ 10000 && baudRate c.baud

/-- R130, R132: the emblem window is a rectangle of the emblem raster, and the position of a running DOTS stream lies in it. -/
def Composer.wf (c : Composer) : Bool :=
  c.x0 ≤ c.x1 && c.x1 ≤ 63 && c.y0 ≤ c.y1 && c.y1 ≤ 55 &&
    match c.stream with
    | some (i, j) => i < c.height && j < c.rowLength
    | none => true

/-- R1, R8, R137, R142, R152, R161: no table outgrows its room, every configuration field lies in its range, and the density
selection is one of the four. -/
structure TablesWf (s : State) : Prop where
  conf : s.store.conf.wf = true
  rolls : s.store.rolls.length ≤ Config.maxRolls
  frames : s.store.frames.length ≤ Config.maxFrames
  accounts : s.store.accounts.length ≤ Config.maxAccounts
  journal : s.store.journal.length ≤ Config.maxJournal
  labels : s.printer.queue.length ≤ Config.maxLabels
  density : densityOk s.store.density = true

/-- R1, R3: the roll directory: four rolls at most, no two of one number, and at most one of them open. -/
structure DirectoryWf (s : State) : Prop where
  room : s.store.rolls.length ≤ Config.maxRolls
  distinct : (s.store.rolls.map Roll.number).Nodup
  oneOpen : (s.store.rolls.filter Roll.isOpen).length ≤ 1

/-- A command that ends in a next state: neither a fault nor a refusal. -/
def Completes (c : Instr) (s : State) : Prop := ∃ t, exec c s = .next t

/-- The events at the supply and the reset line, which the part takes in other states than the running one (R180, R185). -/
def supplyEvent : Instr → Bool
  | .powerFailWarning | .powerOn | .wipeColdStart | .resetLine | .resetRelease | .vccFailure | .batteryExhausted => true
  | _ => false

/-- The other events: at the stand, on the line, and of the part's own timers. -/
def standEvent : Instr → Bool
  | .countEvent _ _ | .indexEdge | .filmEndChange _ | .stepTimerExpiry | .stallLimit | .settleExpiry | .readingComplete _
  | .footswitchPress | .warmupExpiry | .contactOpen | .openTimeout | .plannedTicksExpiry | .contactClosed | .closeTimeout
  | .feedRowStep | .feedRowLimit | .labelEdge | .strobeEnd | .rowTransferComplete | .printPaperStep | .presentRowStep
  | .labelComplete | .paperOut | .paperIn | .paperWaitExpiry | .waitingListWork | .characterReceived _ _ | .lineComplete
  | .partialLineTimeout | .overrunLineEnd | .overrunLineTimeout | .dispatch | .lineSent => true
  | _ => false

/-- A request of the workstation. -/
def isRequest (c : Instr) : Bool := !supplyEvent c && !standEvent c

/-- The levels of the input lines after an event, whether the part takes it or not. -/
def linesAfter (c : Instr) (l : InputLines) : InputLines :=
  match c with
  | .countEvent a b => { l with enca := a, encb := b }
  | .filmEndChange o => { l with fendOpen := o }
  | .contactOpen => { l with scontOpen := true }
  | .contactClosed => { l with scontOpen := false }
  | .paperOut => { l with paperOut := true }
  | .paperIn => { l with paperOut := false }
  | _ => l

/-- The nearest value to `v` in lo..hi (00_scope.md, Clamped and refused fields). -/
def nearest (lo hi v : Int) : Int := max lo (min hi v)

/-- R173: the field `n` is reported as clamped when its value is outside lo..hi. -/
def clampedAt (n : Nat) (lo hi v : Int) : List Nat := if lo ≤ v ∧ v ≤ hi then [] else [n]

end Sys2Proof.Machine
end

