-- ==== Sys2Proof/Certificates/Slice0/Obligations.lean ====
section
/-! DEFINITION. The statements for the provers. Each docstring names the rules of spec/ that the statement formalises. A request's
outcome is given whole: the state in which its effect has been made, answered (`State.replied`, R170). What a statement does not
rewrite, it leaves as it is: every equation below says the whole next state. -/

open Sys2Proof Sys2Proof.Machine

/-! ## The queue of commands -/

/-- The command at the front of the queue is carried out on the state with the queue's rest. -/
def Obligations.StepRunsFrontCommand : Prop :=
  ∀ (s : State) (c : Instr) (rest : List Instr), s.pending = c :: rest → step s = exec c { s with pending := rest }

/-- R86, R87 with log entry 5 (the model's choice): on an empty queue one tick of the Shutter Timer passes while the part runs.
In OPEN the counter rises, and the close command is given when it reaches the planned ticks; in CLOSING it rises; in every
other phase, and while the part does not run, nothing changes. -/
def Obligations.EmptyQueueTicksShutter : Prop :=
  ∀ (s : State), s.pending = [] →
    (s.live = true → ∀ c, s.shutter.phase = .opened → s.shutter.held = some c → s.shutter.ticks + 1 < c.planned →
      s.shutter.ticks < Config.maxTicks →
      step s = .next { s with shutter := { s.shutter with ticks := s.shutter.ticks + 1 } }) ∧
    (s.live = true → ∀ c, s.shutter.phase = .opened → s.shutter.held = some c → s.shutter.ticks + 1 = c.planned →
      c.planned ≤ Config.maxTicks →
      step s = .next { s with
        meter := { s.meter with live := false }
        shutter :=
          { s.shutter with
            phase := .closing (some .normal) false, ticks := c.planned, coil := false, timer := some s.store.conf.closeTo } }) ∧
    (s.live = true → ∀ p b, s.shutter.phase = .closing p b →
      step s = .next { s with shutter := { s.shutter with ticks := min 1048575 (s.shutter.ticks + 1) } }) ∧
    (s.live = false ∨ s.shutter.phase = .idle ∨ s.shutter.phase = .opening → step s = .next s)

/-- Log entry 2 (the model's choice): every command that the line or the stand can give ends in a next state, in every state;
the completion of a reading that no sum of 16 conversions can be (R49) is the one command that is refused. R172, and the forms
that each request's rule gives it: what a number, a word, a text, a hexadecimal string and a frame reference read as, and that
a field of another form or of other characters is refused FORM at its number; and for every form of every request of the opcode
table, the fields that read as it, with any field that reads as the number or the frame reference. Where the manual leaves a
point open, the choice is the model's: log entries 14 (a field's form is found before the owner's checks) and 66 (a word with a
lower-case letter). -/
def Obligations.EveryCommandCompletes : Prop :=
  (∀ (c : Instr) (s : State), c.wellFormed = true → Completes c s) ∧
  (∀ (r : Nat) (s : State), 65520 < r → exec (.readingComplete r) s = .refused .impossibleReading) ∧
  (∀ (k : Nat) (f : Field) (t : Text) (x y : Int),
    let written (ds : List (Fin 10)) : Text := ds.map fun d => Char.ofNat (48 + d.val)
    let read (ds : List (Fin 10)) : Int := ds.foldl (fun n d => 10 * n + d.val) 0
    let capital (c : Char) : Prop := ('A' ≤ c ∧ c ≤ 'Z') ∨ ('0' ≤ c ∧ c ≤ '9')
    (∀ ds : List (Fin 10), ds ≠ [] →
      number k (.plain (written ds)) = .ok (read ds) ∧ number k (.plain ('+' :: written ds)) = .ok (read ds) ∧
        number k (.plain ('-' :: written ds)) = .ok (-read ds)) ∧
    ((∀ ds : List (Fin 10), ds ≠ [] →
        f ≠ .plain (written ds) ∧ f ≠ .plain ('+' :: written ds) ∧ f ≠ .plain ('-' :: written ds)) →
      number k f = .error (some k)) ∧
    ((∀ c ∈ t, capital c) → word k (.plain t) = .ok t) ∧
    ((∀ u, (∀ c ∈ u, capital c) → f ≠ .plain u) → word k f = .error (some k)) ∧
    textField k (.quoted t) = .ok t ∧ textField k .empty = .ok [] ∧ textField k (.plain t) = .error (some k) ∧
    hexField k (.plain t) = .ok t ∧ hexField k .empty = .ok [] ∧ hexField k (.quoted t) = .error (some k) ∧
    (∀ a b : Text, number k (.plain a) = .ok x → number k (.plain b) = .ok y →
      frameRef k (.plain (a ++ '/' :: b)) = .ok (x, y)) ∧
    ((∀ (a b : Text) (v w : Int), number k (.plain a) = .ok v → number k (.plain b) = .ok w →
        f ≠ .plain (a ++ '/' :: b)) →
      frameRef k f = .error (some k))) ∧
  ∀ (num : Int → Field) (cell : Int → Int → Field), (∀ k v, number k (num v) = .ok v) →
    (∀ k v w, frameRef k (cell v w) = .ok (v, w)) →
    ∀ (a b c d e g h : Int) (l : List Int) (t u w : Text) (f : Field),
    readRequest .load [num a] = .ok (.load a none) ∧ readRequest .load [num a, num b] = .ok (.load a (some b)) ∧
    readRequest .unld [] = .ok .unld ∧ readRequest .drop [num a] = .ok (.drop a) ∧
    readRequest .fram [cell a b] = .ok (.fram a b) ∧
    readRequest .roll [] = .ok .rollList ∧ readRequest .roll [num a] = .ok (.rollQuery a) ∧
    (∀ p : List (Int × Int), 1 ≤ p.length → p.length ≤ 7 →
      readRequest .pick (p.map fun q => cell q.1 q.2) = .ok (.pick p)) ∧
    readRequest .rjct [cell a b] = .ok (.rjct a b) ∧
    readRequest .mark [num a, num b] = .ok (.markRegister a b) ∧ readRequest .mark [num a] = .ok (.markRemove a) ∧
    readRequest .mark [] = .ok .markList ∧
    (∀ z : List (ZoneKind × Int × Int), 1 ≤ z.length → z.length ≤ 7 →
      readRequest .zone (z.flatMap fun p => [.plain (zoneKindWord p.1), num p.2.1, num p.2.2]) =
        .ok (.zoneWrite (z.map fun p => { kind := some p.1, low := p.2.1, high := p.2.2 }))) ∧
    readRequest .zone [.plain ['C', 'L', 'E', 'A', 'R']] = .ok .zoneClear ∧ readRequest .zone [] = .ok .zoneList ∧
    readRequest .ramp (num a :: num b :: num c :: l.map num) = .ok (.rampWrite a b (c :: l)) ∧
    readRequest .ramp [num a] = .ok (.rampList a) ∧ readRequest .wind [] = .ok .wind ∧
    (∀ n : NumField, readRequest .conf [.plain (confName (.num n)), num a] = .ok (.confWrite (.num n a))) ∧
    (∀ m : EncMode,
      readRequest .conf [.plain (confName .encoder), .plain (encModeWord m)] = .ok (.confWrite (.encoder (some m)))) ∧
    (∀ n : ConfField, readRequest .conf [.plain (confName n)] = .ok (.confQuery (some n))) ∧
    readRequest .conf [] = .ok .confList ∧
    readRequest .offs [num a, num b, num c] = .ok (.offsWrite a b c) ∧ readRequest .offs [num a] = .ok (.offsEmpty a) ∧
    readRequest .offs [] = .ok .offsList ∧ readRequest .gain [num a, num b] = .ok (.gainWrite a b) ∧
    readRequest .gain [num a] = .ok (.gainQuery (some a)) ∧ readRequest .gain [] = .ok (.gainQuery none) ∧
    readRequest .calb [num a, num b] = .ok (.calbStart a b) ∧ readRequest .calb [num a] = .ok (.calbQuery (some a)) ∧
    readRequest .calb [] = .ok (.calbQuery none) ∧
    readRequest .wtch [num a, num b, num c, num d] = .ok (.wtchWrite a b c d) ∧
    readRequest .wtch [num a] = .ok (.wtchQuery (some a)) ∧ readRequest .wtch [] = .ok (.wtchQuery none) ∧
    readRequest .read [num a] = .ok (.read (some a)) ∧ readRequest .read [] = .ok (.read none) ∧
    (∀ p : List (Int × Int), p.length ≤ 4 →
      readRequest .film (num a :: .quoted t :: .quoted u :: num b :: p.flatMap fun q => [num q.1, num q.2]) =
        .ok (.filmWrite a t u b p)) ∧
    readRequest .film [num a] = .ok (.filmQuery (some a)) ∧ readRequest .film [] = .ok (.filmQuery none) ∧
    (l.length ≤ 6 → readRequest .plan (num a :: num b :: l.map num) = .ok (.planWrite a (b :: l))) ∧
    readRequest .plan [num a] = .ok (.planQuery (some a)) ∧ readRequest .plan [] = .ok (.planQuery none) ∧
    (∀ x : Light,
      readRequest .trim [.plain (lightWord x), num a] = .ok (.trimWrite (some x) a) ∧
      readRequest .trim [.plain (lightWord x)] = .ok (.trimQuery (some (some x))) ∧
      readRequest .lite [.plain (lightWord x), .plain ['O', 'N']] = .ok (.liteSet (some x) (some true)) ∧
      readRequest .lite [.plain (lightWord x), .plain ['O', 'F', 'F']] = .ok (.liteSet (some x) (some false))) ∧
    readRequest .trim [] = .ok (.trimQuery none) ∧ readRequest .lite [] = .ok .liteQuery ∧
    readRequest .ctxq [] = .ok .ctxq ∧
    (∀ m : Source,
      readRequest .calc [num a, .plain (sourceWord m), num b, num c, num d] = .ok (.calc a (some m) b c d) ∧
      readRequest .item [num a, .quoted t, .quoted u, .quoted w, .plain (sourceWord m), num b, num c, num d] =
        .ok (.itemAdd a t u w (some m) b c d none)) ∧
    (∀ x : Light,
      readRequest .item [num a, .quoted t, .quoted u, .quoted w, .plain ['M', 'A', 'N', 'U', 'A', 'L'], num b, num c, num d,
          .plain (lightWord x)] = .ok (.itemAdd a t u w (some .manual) b c d (some (some x)))) ∧
    readRequest .item [num a, num b] = .ok (.itemQuery a b) ∧
    (∀ x : OrderClass, readRequest .ordr [num a, num b, .plain (classWord x)] = .ok (.ordrCreate a b (some x))) ∧
    readRequest .ordr [num a] = .ok (.ordrQuery (some a)) ∧ readRequest .ordr [] = .ok (.ordrQuery none) ∧
    readRequest .post [num a] = .ok (.post a) ∧ readRequest .hold [num a] = .ok (.hold a) ∧
    readRequest .free [num a] = .ok (.free a) ∧ readRequest .cncl [num a] = .ok (.cnclOrder a) ∧
    readRequest .cncl [num a, num b] = .ok (.cnclItem a b) ∧ readRequest .run [] = .ok .run ∧
    readRequest .go [] = .ok .go ∧ readRequest .cycl [] = .ok .cycl ∧ readRequest .paus [] = .ok .paus ∧
    readRequest .abrt [] = .ok .abrt ∧ readRequest .rsum [] = .ok .rsum ∧
    (∀ x : List Text, x.length ≤ 15 →
      readRequest .glyf (num a :: .plain t :: x.map Field.plain) = .ok (.glyfLoad a (t :: x))) ∧
    readRequest .glyf [num a] = .ok (.glyfQuery a) ∧
    readRequest .embl [num a, num b, num c, num d] = .ok (.emblWindow a b c d) ∧
    readRequest .embl [.plain ['C', 'L', 'E', 'A', 'R']] = .ok .emblClear ∧ readRequest .embl [] = .ok .emblQuery ∧
    readRequest .dots [.plain t] = .ok (.dots t) ∧ readRequest .ltxt [cell a b] = .ok (.ltxt a b) ∧
    readRequest .prnt [num a] = .ok (.prnt a) ∧ readRequest .pstp [] = .ok .pstp ∧
    readRequest .rprt [cell a b] = .ok (.rprt a b) ∧ readRequest .dens [num a] = .ok (.densWrite a) ∧
    readRequest .dens [] = .ok .densQuery ∧ readRequest .lque [] = .ok .lque ∧
    readRequest .rate [num a, num b, num c, num d, num e, num g, num h] = .ok (.rateWrite a b c d e g h) ∧
    readRequest .rate [num a] = .ok (.rateQuery (some a)) ∧ readRequest .rate [] = .ok (.rateQuery none) ∧
    (∀ z : List (Int × Int × Int), 1 ≤ z.length → z.length ≤ 8 →
      readRequest .tier (z.flatMap fun p => [num p.1, num p.2.1, num p.2.2]) =
        .ok (.tierWrite (z.map fun p => { low := p.1, high := p.2.1, discount := p.2.2 }))) ∧
    readRequest .tier [.plain ['C', 'L', 'E', 'A', 'R']] = .ok .tierClear ∧ readRequest .tier [] = .ok .tierList ∧
    readRequest .acct [num a, .quoted t, num b] = .ok (.acctWrite a t b none none) ∧
    readRequest .acct [num a, .quoted t, num b, num c] = .ok (.acctWrite a t b (some (some c)) none) ∧
    readRequest .acct [num a, .quoted t, num b, .empty] = .ok (.acctWrite a t b (some none) none) ∧
    (∀ x : AcctState,
      readRequest .acct [num a, .quoted t, num b, num c, .plain (acctStateWord x)] =
        .ok (.acctWrite a t b (some (some c)) (some (some x))) ∧
      readRequest .acct [num a, .quoted t, num b, .empty, .plain (acctStateWord x)] =
        .ok (.acctWrite a t b (some none) (some (some x)))) ∧
    readRequest .acct [num a] = .ok (.acctQuery (some a)) ∧ readRequest .acct [] = .ok (.acctQuery none) ∧
    readRequest .acct [num a, .plain ['R', 'E', 'M', 'O', 'V', 'E']] = .ok (.acctRemove a) ∧
    readRequest .zero [num a] = .ok (.zero a) ∧ readRequest .take [num a] = .ok (.take a) ∧
    readRequest .take [] = .ok .takeState ∧ readRequest .stat [] = .ok .stat ∧
    readRequest .wipe [.plain ['A', 'L', 'L']] = .ok (.wipe true) ∧
    (f ≠ .plain ['A', 'L', 'L'] → readRequest .wipe [f] = .ok (.wipe false)) ∧
    readRequest .rset [] = .ok .rset ∧ readRequest .mems [] = .ok .mems ∧
    (∀ v : Verb, v ∈ [.drop, .post, .hold, .free, .prnt, .zero, .roll, .mark, .ramp, .offs, .gain, .calb, .wtch, .read,
        .film, .plan, .ordr, .cncl, .glyf, .dens, .rate, .acct, .take] →
      number 1 f = .error (some 1) → readRequest v [f] = .error (refuseAt .form 1)) ∧
    (∀ v : Verb, v ∈ [.unld, .wind, .ctxq, .run, .go, .cycl, .paus, .abrt, .rsum, .pstp, .lque, .stat, .rset, .mems] →
      readRequest v [f] = .error (refuse .form))

/-- R170, R178, R180, R182, R185: a request that cannot be taken (the part does not run, lines are being discarded, an OVER
reply is owed, or the reply queue is full) waits, and changes nothing; and after the power-fail warning, without supply and
while RESET is low, no stand event, character or timer expiry is taken: it changes nothing but the level of its own input line;
and when the part takes events, and when it can take a request. Where the manual leaves a point open, the choice is the
model's: log entries 2, 7, 8 and 68 (a reading completed while RESET is low). -/
def Obligations.CommandsNotTakenChangeNothing : Prop :=
  (∀ (c : Instr) (s : State), isRequest c = true → s.canTake = false → exec c s = .next s) ∧
  (∀ (c : Instr) (s : State), standEvent c = true → c.wellFormed = true → s.live = false →
     exec c s = .next { s with lines := linesAfter c s.lines }) ∧
  ∀ (s : State),
    (s.live = true ↔ s.supply = .running ∧ s.resetLow = false) ∧
    (s.canTake = true ↔
      s.live = true ∧ s.link.discard = false ∧ s.link.overOwed = 0 ∧ s.link.replies.length < 4)

/-! ## Invariants -/

/-- R167, R170, R174, R175: whatever command a step carries out, at most two slots hold a line, at most one of them is FILLING,
a line holds at most 160 printable characters and an overrun count of at most 255, the reply queue holds at most four lines, no
two pending notices are of one kind, and an idle transmitter has nothing to send. -/
def Obligations.StepKeepsLineLink : Prop := ∀ (s t : State), LinkWf s → step s = .next t → LinkWf t

/-- R25: whatever command a step carries out, the sprocket count and the last completed stop count stay in their range. -/
def Obligations.StepKeepsCountRange : Prop := ∀ (s t : State), CountWf s → step s = .next t → CountWf t

/-- R1, R8, R47, R55, R90, R106, R130, R132, R137, R142, R152, R161, R177: whatever command a step carries out, the roll
directory, the frame table, the account table, the charge journal and the label queue stay in their room, every configuration
field lies in its range, the density selection is one of the four, and the emblem window and the position of a running DOTS
stream lie in the emblem raster. It says nothing of the order book, the item pool, the zones, the ramp, the tiers, the marks or
the contexts. -/
def Obligations.StepKeepsTables : Prop :=
  ∀ (s t : State), TablesWf s → s.composer.wf = true → step s = .next t → TablesWf t ∧ t.composer.wf = true

/-- R1, R3: whatever command a step carries out, at most four rolls stand in the directory, no two of one number, and at most
one of them is open. -/
def Obligations.StepKeepsOneOpenRoll : Prop := ∀ (s t : State), DirectoryWf s → step s = .next t → DirectoryWf t

/-- The invariants hold at the state after reset. -/
def Obligations.InvariantsHoldAtReset : Prop :=
  LinkWf State.reset ∧ CountWf State.reset ∧ TablesWf State.reset ∧ State.reset.composer.wf = true ∧ DirectoryWf State.reset

/-! ## The roll and the frame table (chapter 1) -/

/-- R2, R15 (with R5, R7): LOAD in every form: its refusals in their order, and the roll record, the count, the targets and the
zones that an accepted LOAD writes before the threading advance starts; and the roll number it gives, with at most three rolls
in the directory: the first number after the roll counter, 65535 being followed by 1, that no roll in the directory bears.
Where the manual leaves a point open, the choice is the model's: log entries 8 and 74 (the reference of an index check that is
STARTING). -/
def Obligations.LoadOpensRoll : Prop :=
  (∀ (film : Int) (length : Option Int) (s : State), s.canTake = true →
     exec (.load film length) s = .next (
       if ¬(1 ≤ film ∧ film ≤ 8) then s.replied .load (refuseAt .range 1)
       else if s.film film.toNat = none then s.replied .load (refuseAt .none 1)
       else if s.openRoll ≠ none then s.replied .load (refuse .busy)
       else if 4 ≤ s.store.rolls.length ∨ 1024 ≤ s.store.frames.length then s.replied .load (refuse .full)
       else
         let cpf := cpfOf s.store.conf.encoder
         let base := s.store.conf.leader * cpf
         let frames := length.map fun v => (nearest 1 1000 v).toNat
         let r : Roll :=
           { number := s.newRollNumber, film := film.toNat, state := .threading, base := base, length := frames,
             frameCount := 0, tail := if s.transport.filmEndOpen then some s.store.conf.tail else none,
             positionValid := true, fault := none }
         let t : State :=
           { s.reserveTx with
             store :=
               { s.store with
                 rolls := s.store.rolls ++ [r]
                 rollCounter := r.number
                 zone0 := if base = 0 then none else some { kind := .leader, low := 0, high := (base : Int) - 1 }
                 zones := [] }
             transport :=
               { s.transport with
                 count := 0, held := false, index := { s.transport.index with state := .starting }, slow := none, stop := none
                 marks := []
                 limit := frames.map fun n => { value := base + n * cpf, armed := decide (0 < base + n * cpf) } } }
         (t.startAdvance .load).replied .load
           (ok [numF r.number, .num film, numF base] ((length.map (clampedAt 2 1 1000)).getD [])))) ∧
  (∀ (s : State), s.store.rolls.length ≤ 3 →
     ∃ k, k ≤ 3 ∧ s.newRollNumber = Nat.repeat nextNumber (k + 1) s.store.rollCounter ∧
       (∀ j, j < k → Nat.repeat nextNumber (j + 1) s.store.rollCounter ∈ s.store.rolls.map Roll.number) ∧
       s.newRollNumber ∉ s.store.rolls.map Roll.number) ∧
  (∀ (n : Nat), n < 65535 → nextNumber n = n + 1) ∧ nextNumber 65535 = 1

/-- R17: UNLD in every form: its refusals, the VOID of a POSITIONED gate frame, the roll's new state with its notice, and the
loss of the gate frame told to the stand cycle (R111). Where the manual leaves a point open, the choice is the model's: log
entries 8 (the reply before the notice), 15 and 46. -/
def Obligations.UnldClosesRoll : Prop :=
  ∀ (s : State), s.canTake = true →
    exec .unld s = .next (
      match s.openRoll with
      | none => s.replied .unld (refuse .none)
      | some r =>
        if s.cycle.state = .metering ∨ s.cycle.state = .exposing ∨ s.cycle.state = .winding ∨ s.transport.advance ≠ none ∨
            s.shutter.phase ≠ .idle then
          s.replied .unld (refuse .busy)
        else
          let t := match s.gateFrame with
            | some f => s.reserveTx.setFrame { f with state := .void, cause := some .unload }
            | none => s.reserveTx
          let settleable := (t.store.frames.filter fun f => f.roll == r.number).all fun f =>
            !(f.state == .exposed && f.selection == some .undecided) && !(f.selection == some .kept && f.label != .printed)
          let u := (t.setRoll { r with state := if settleable then .settled else .closed }).raise
            (.rollState r.number (if settleable then .settled else .closed))
          (if s.cycle.state = .place ∨ s.cycle.state = .warmup then u.enterWaiting .noRoll else u).replied .unld (ok []))

/-- R18: DROP in every form: its refusals in their order, and the removal of the roll and its frame records. That it raises no
ROLL notice is the model's choice: log entry 62. -/
def Obligations.DropRemovesRoll : Prop :=
  ∀ (roll : Int) (s : State), s.canTake = true →
    exec (.drop roll) s = .next (
      if ¬(1 ≤ roll ∧ roll ≤ 65535) then s.replied .drop (refuseAt .range 1)
      else
        match s.rollNumbered roll.toNat with
        | none => s.replied .drop (refuseAt .none 1)
        | some r =>
          let mine := s.store.frames.filter fun f => f.roll == r.number
          if r.state ≠ .settled then s.replied .drop (refuseAt .state 1)
          else if mine.any fun f => (f.state == .exposed || f.state == .spoiled) && !f.charged then
            s.replied .drop (refuse .busy)
          else if s.printer.hand.any fun h => h.kind == .rprt && h.roll == r.number then s.replied .drop (refuse .busy)
          else
            { s with
              store :=
                { s.store with
                  rolls := s.store.rolls.filter fun q => q.number != r.number
                  frames := s.store.frames.filter fun f => f.roll != r.number } }.replied .drop
              (ok [numF r.number, numF mine.length]))

/-- R19, R20: FRAM and the two forms of ROLL change nothing: they are refused or answer with the fields of the records as they
stand, each named in its order; and what a roll number, a frame reference, the open roll and the gate frame (R10) find, and
what the rewriting of a record leaves. Where the manual leaves a point open, the choice is the model's: log entry 19. -/
def Obligations.FrameAndRollQueries : Prop :=
  ∀ (roll frame : Int) (s : State), s.canTake = true →
    exec (.fram roll frame) s = .next (s.replied .fram (
      if ¬(1 ≤ roll ∧ roll ≤ 65535 ∧ 1 ≤ frame ∧ frame ≤ 1000) then refuse .range
      else
        match s.rollNumbered roll.toNat with
        | none => refuse .none
        | some r =>
          if r.frameCount < frame.toNat then refuse .none
          else
            match s.frameAt roll.toNat frame.toNat with
            | none => refuse .none
            | some f =>
              let ref (g : ItemRef → Int) : RField := match f.ref with
                | some q => .num (g q)
                | none => .empty
              let part (g : Computed → RField) : RField := match f.computed with
                | some c => g c
                | none => .empty
              ok
                [.frame f.roll f.number, .word f.state.word, optF (fun c => .word (FrameCause.word c)) f.cause,
                 optF RField.num f.gateCount, ref fun q => q.order, ref fun q => q.item, ref fun q => q.set, ref fun q => q.step,
                 ref fun q => q.offset, part fun c => numF c.logT, part fun c => numF c.planned, optF numF f.measured,
                 part fun c => optF numF c.light, part fun c => flagsField c.flags,
                 optF (fun x => .word (Selection.word x)) f.selection, .word f.label.word,
                 .word (if f.charged then ['Y'] else ['N'])])) ∧
    exec .rollList s = .next (s.replied .roll
      (ok (s.store.rolls.flatMap fun r => [numF r.number, .word (Roll.stateWord r.state)]))) ∧
    exec (.rollQuery roll) s = .next (s.replied .roll (
      if ¬(1 ≤ roll ∧ roll ≤ 65535) then refuse .range
      else
        match s.rollNumbered roll.toNat with
        | none => refuse .none
        | some r =>
          let mine := s.store.frames.filter fun f => f.roll == r.number
          ok
            [numF r.number, numF r.film, .word (Roll.stateWord r.state), numF r.base, optF numF r.length, numF r.frameCount,
             optF numF r.tail, .word (if r.positionValid then ['Y'] else ['N']),
             optF (fun x => .word (ThreadFault.word x)) r.fault,
             numF (mine.filter fun f => f.state == .exposed && f.selection == some .undecided).length,
             numF (mine.filter fun f => f.selection == some .kept && f.label != .printed).length])) ∧
  ∀ (n m : Nat) (f : Frame) (r : Roll) (s : State),
    s.rollNumbered n = (s.store.rolls.find? fun q => q.number == n) ∧
    s.openRoll = (s.store.rolls.find? fun q => q.state == .threading || q.state == .loaded || q.state == .ended) ∧
    s.frameAt n m = (s.store.frames.find? fun g => g.roll == n && g.number == m) ∧
    (s.openRoll = none → s.gateFrame = none) ∧
    (s.openRoll = some r → s.gateFrame =
      match s.frameAt r.number r.frameCount with
      | some g => if g.state = .positioned then some g else none
      | none => none) ∧
    s.setFrame f = { s with
      store :=
        { s.store with
          frames := s.store.frames.map fun g => if g.roll = f.roll ∧ g.number = f.number then f else g } } ∧
    s.setRoll r = { s with
      store := { s.store with rolls := s.store.rolls.map fun q => if q.number = r.number then r else q } }

/-- R14, R21, R22, R23 (with R12): RJCT in every form: its refusals in their order, and the rejection of every EXPOSED
UNDECIDED frame of the set, counted at its item, looked at by the Charge Unit, with the roll checks; and an accepted PICK,
which keeps the named frames and rejects every other EXPOSED UNDECIDED frame of the set; and the refusals of PICK in their
order, each at the first offending frame. A set is incomplete while its item is ACTIVE, it is the item's current set, and a
step of it is not DONE. And the roll check, made here and after a label's completion: a CLOSED roll with no EXPOSED UNDECIDED
frame and no KEPT frame whose label is not PRINTED becomes SETTLED and raises its ROLL notice, and every other roll stays as it
is. Where the manual leaves a point open, the choice is the model's: log entries 8 (the reply before the notices), 48 (a frame
without an item reference), 50 (OPEN at field 1) and 63 (the rolls in load order). -/
def Obligations.PickAndRjctDecideSet : Prop :=
  (∀ (roll frame : Int) (s : State), s.canTake = true →
     exec (.rjct roll frame) s = .next (
       if ¬(1 ≤ roll ∧ roll ≤ 65535 ∧ 1 ≤ frame ∧ frame ≤ 1000) then s.replied .rjct (refuseAt .range 1)
       else
         match s.frameAt roll.toNat frame.toNat with
         | none => s.replied .rjct (refuseAt .none 1)
         | some f =>
           if ¬(f.state = .exposed ∧ f.selection = some .undecided) then s.replied .rjct (refuseAt .state 1)
           else
             match f.ref with
             | none => s.replied .rjct (refuseAt .state 1)
             | some r =>
               if s.setIncomplete r = true then s.replied .rjct (refuseAt .open_ 1)
               else
                 let decided := fun g : Frame => g.state == .exposed && g.selection == some .undecided && g.ref.any fun q =>
                   q.order == r.order && q.item == r.item && q.set == r.set
                 let t : State :=
                   { s.reserveTx with
                     store :=
                       { s.store with
                         frames := s.store.frames.map fun g =>
                           if decided g then { g with selection := some .rejected } else g } }
                 let u := (t.updateItem r.order r.item fun it =>
                   { it with rejected := it.rejected + (s.store.frames.filter decided).length }).lookItem r.order r.item
                 (((s.store.rolls.map Roll.number).filter fun n =>
                     s.store.frames.any fun g => g.roll == n && decided g).foldl (fun v n => v.checkRoll n) u).replied .rjct
                   (ok [.dotted [r.order, r.item, r.set], numF (s.store.frames.filter decided).length]))) ∧
  (∀ (frames : List (Int × Int)) (r : ItemRef) (s : State), s.canTake = true →
     1 ≤ frames.length → frames.length ≤ 7 → frames.Nodup →
     (∀ p ∈ frames, 1 ≤ p.1 ∧ p.1 ≤ 65535 ∧ 1 ≤ p.2 ∧ p.2 ≤ 1000) →
     (∀ p ∈ frames, ∃ f, s.frameAt p.1.toNat p.2.toNat = some f ∧ f.state = .exposed ∧ f.selection = some .undecided ∧
       ∃ q, f.ref = some q ∧ q.order = r.order ∧ q.item = r.item ∧ q.set = r.set) →
     s.setIncomplete r = false →
     let decided := fun g : Frame => g.state == .exposed && g.selection == some .undecided && g.ref.any fun q =>
       q.order == r.order && q.item == r.item && q.set == r.set
     let named := fun g : Frame => frames.contains ((g.roll : Int), (g.number : Int))
     let kept := ((s.store.frames.filter decided).filter named).length
     let rejected := (s.store.frames.filter decided).length - kept
     let t : State :=
       { s.reserveTx with
         store :=
           { s.store with
             frames := s.store.frames.map fun g =>
               if decided g then { g with selection := some (if named g then .kept else .rejected) } else g } }
     let u := (t.updateItem r.order r.item fun it =>
       { it with kept := it.kept + kept, rejected := it.rejected + rejected }).lookItem r.order r.item
     exec (.pick frames) s = .next
       ((((s.store.rolls.map Roll.number).filter fun n =>
           s.store.frames.any fun g => g.roll == n && decided g).foldl (fun v n => v.checkRoll n) u).replied .pick
         (ok [.dotted [r.order, r.item, r.set], numF kept, numF rejected]))) ∧
  (∀ (frames : List (Int × Int)) (s : State), s.canTake = true →
     let record (p : Int × Int) : Option Frame := s.frameAt p.1.toNat p.2.toNat
     let refusal : Option Answer :=
       if frames.length = 0 ∨ 7 < frames.length then some (refuse .form)
       else
         match frames.findIdx? fun p => decide ¬(1 ≤ p.1 ∧ p.1 ≤ 65535 ∧ 1 ≤ p.2 ∧ p.2 ≤ 1000) with
         | some i => some (refuseAt .range (i + 1))
         | none =>
           match frames.zipIdx.find? fun p => (frames.take p.2).contains p.1 with
           | some p => some (refuseAt .dup (p.2 + 1))
           | none =>
             match frames.findIdx? fun p => decide (record p = none) with
             | some i => some (refuseAt .none (i + 1))
             | none =>
               match frames.findIdx? fun p => !(record p).any fun f => f.state == .exposed && f.selection == some .undecided with
               | some i => some (refuseAt .state (i + 1))
               | none =>
                 match (frames.head?.bind record).bind Frame.ref with
                 | none => some (refuseAt .state 1)
                 | some r =>
                   match frames.findIdx? fun p => !(record p).any fun f => f.ref.any fun q =>
                       q.order == r.order && q.item == r.item && q.set == r.set with
                   | some i => some (refuseAt .state (i + 1))
                   | none => if s.setIncomplete r = true then some (refuseAt .open_ 1) else none
     ∀ a, refusal = some a → exec (.pick frames) s = .next (s.replied .pick a)) ∧
  (∀ (r : ItemRef) (s : State), s.setIncomplete r = true ↔
     ∃ it, s.item r.order r.item = some it ∧ it.state = .active ∧ it.currentSet = some r.set ∧
       ∃ l, it.steps = some l ∧ ∃ st ∈ l, st ≠ .done) ∧
  ∀ (n : Nat) (s : State),
    let settleable : Prop := ∀ f ∈ s.store.frames, f.roll = n →
      ¬(f.state = .exposed ∧ f.selection = some .undecided) ∧ ¬(f.selection = some .kept ∧ f.label ≠ .printed)
    (∀ before r after, s.store.rolls = before ++ r :: after → (∀ q ∈ before ++ after, q.number ≠ n) → r.number = n →
      (r.state = .closed → settleable →
        s.checkRoll n = ({ s with
          store :=
            { s.store with rolls := before ++ { r with state := .settled } :: after } } : State).raise (.rollState n .settled)) ∧
      (r.state ≠ .closed ∨ ¬settleable → s.checkRoll n = s)) ∧
    ((∀ r ∈ s.store.rolls, r.number ≠ n) → s.checkRoll n = s)

/-! ## Film transport (chapter 2) -/

/-- R28, R31, R36 (with R27, R29): the three forms of MARK and of ZONE and the two of RAMP: the refusals in their order; the
mark entry that a registration writes in mark number order, armed when its value is above the present count, and the removal;
the zone entries 1..7 that are replaced or removed; the staged ramp and its taking the ramp table's place when it is complete;
and the listings. Where the manual leaves a point open, the choice is the model's: log entries 9, 15, 16, 17 and 75 (the ramp
listing is answered during an advance). -/
def Obligations.MarkZoneAndRampRequests : Prop :=
  (∀ (n count : Int) (s : State), s.canTake = true →
     exec (.markRegister n count) s = .next (
       if ¬(1 ≤ n ∧ n ≤ 4) then s.replied .mark (refuseAt .range 1)
       else
         match s.openRoll with
         | none => s.replied .mark (refuse .none)
         | some r =>
           if s.transport.advance ≠ none then s.replied .mark (refuse .busy)
           else
             let v := nearest (-8388608) 8388607 count
             let armed := decide (s.transport.count < v)
             let m : Mark := { number := n.toNat, roll := r.number, value := v, armed := armed }
             let t : State := { s with
               transport :=
                 { s.transport with
                   marks := (s.transport.marks.filter fun x : Mark => x.number < m.number) ++
                     m :: s.transport.marks.filter fun x : Mark => m.number < x.number } }
             t.replied .mark
               (ok [.num n, .num v, .word (if armed then ['A'] else ['D'])] (clampedAt 2 (-8388608) 8388607 count))) ∧
     exec (.markRemove n) s = .next (
       if ¬(1 ≤ n ∧ n ≤ 4) then s.replied .mark (refuseAt .range 1)
       else if s.transport.advance ≠ none then s.replied .mark (refuse .busy)
       else
         { s with transport := { s.transport with marks := s.transport.marks.filter fun x => x.number != n.toNat } }.replied .mark
           (ok [])) ∧
     exec .markList s = .next (s.replied .mark (ok (s.transport.marks.flatMap fun m =>
       [numF m.number, numF m.roll, .num m.value, .word (if m.armed then ['A'] else ['D'])])))) ∧
  (∀ (entries : List ZoneArg) (s : State), s.canTake = true →
     exec (.zoneWrite entries) s = .next (
       if entries.length = 0 ∨ 7 < entries.length then s.replied .zone (refuse .form)
       else
         match entries.findIdx? fun z => z.kind.isNone with
         | some i => s.replied .zone (refuseAt .range (3 * i + 1))
         | none =>
           match entries.findIdx? fun z => nearest (-8388608) 8388607 z.low > nearest (-8388608) 8388607 z.high with
           | some i => s.replied .zone (refuseAt .range (3 * i + 2))
           | none =>
             if s.openRoll = none then s.replied .zone (refuse .none)
             else if s.transport.advance ≠ none then s.replied .zone (refuse .busy)
             else
               let t : State := { s with
                 store :=
                   { s.store with
                     zones := entries.filterMap fun z : ZoneArg => z.kind.map fun k =>
                       { kind := k, low := nearest (-8388608) 8388607 z.low, high := nearest (-8388608) 8388607 z.high } } }
               t.replied .zone (ok [numF entries.length] (entries.zipIdx.flatMap fun p : ZoneArg × Nat =>
                   clampedAt (3 * p.2 + 2) (-8388608) 8388607 p.1.low ++ clampedAt (3 * p.2 + 3) (-8388608) 8388607 p.1.high))) ∧
     exec .zoneClear s = .next (
       if s.openRoll = none then s.replied .zone (refuse .none)
       else if s.transport.advance ≠ none then s.replied .zone (refuse .busy)
       else { s with store := { s.store with zones := [] } }.replied .zone (ok [numF 0])) ∧
     exec .zoneList s = .next (s.replied .zone (ok (
       (match s.store.zone0 with
         | some z => [numF 0, .word (zoneKindWord z.kind), .num z.low, .num z.high]
         | none => []) ++
       (s.store.zones.zipIdx 1).flatMap fun p => [numF p.2, .word (zoneKindWord p.1.kind), .num p.1.low, .num p.1.high])))) ∧
  (∀ (length first : Int) (intervals : List Int) (s : State), s.canTake = true →
     exec (.rampWrite length first intervals) s = .next (
       if intervals.length = 0 ∨ 22 < intervals.length then s.replied .ramp (refuse .form)
       else if ¬(2 ≤ length ∧ length ≤ 32) then s.replied .ramp (refuseAt .range 1)
       else if ¬(0 ≤ first ∧ first ≤ length - 1) ∨ first + intervals.length > length then s.replied .ramp (refuseAt .range 2)
       else if s.transport.advance ≠ none then s.replied .ramp (refuse .busy)
       else if 0 < first ∧ ¬(s.transport.stagedRamp.any fun r => r.length == length.toNat && r.intervals.length == first.toNat) then
         s.replied .ramp (refuseAt .state 2)
       else
         let old := if first = 0 then [] else (s.transport.stagedRamp.map StagedRamp.intervals).getD []
         let l := old ++ intervals.map fun v => (nearest 50 16383 v).toNat
         let clamped := intervals.zipIdx.flatMap fun p => clampedAt (p.2 + 3) 50 16383 p.1
         if l.length = length.toNat then
           { s with
             store := { s.store with ramp := l }
             transport := { s.transport with stagedRamp := none } }.replied .ramp (ok [.word ['D', 'O', 'N', 'E']] clamped)
         else
           { s with transport := { s.transport with stagedRamp := some { length := length.toNat, intervals := l } } }.replied .ramp
             (ok [numF l.length] clamped)) ∧
     exec (.rampList first) s = .next (s.replied .ramp (
       if ¬(0 ≤ first ∧ first < s.store.ramp.length) then refuse .range
       else ok (numF s.store.ramp.length :: ((s.store.ramp.drop first.toNat).take 16).map numF))))

/-- R46: WIND in every form: the refusals in their order, the VOID of a POSITIONED gate frame, and the advance it asks for.
Where the manual leaves a point open, the choice is the model's: log entries 8 (the reply before the notices of the advance)
and 15. -/
def Obligations.WindVoidsGateAndAdvances : Prop :=
  ∀ (s : State), s.canTake = true →
    exec .wind s = .next (
      if ¬(s.cycle.state = .stopped ∨ s.cycle.isWaiting = true) then s.replied .wind (refuse .busy)
      else if s.shutter.phase ≠ .idle then s.replied .wind (refuse .busy)
      else
        match s.openRoll with
        | none => s.replied .wind (refuse .none)
        | some r =>
          if s.transport.advance ≠ none then s.replied .wind (refuse .busy)
          else if r.state = .threading ∨ r.state = .ended then s.replied .wind (refuse .state)
          else
            let t := match s.gateFrame with
              | some f => s.reserveTx.setFrame { f with state := .void, cause := some .wind }
              | none => s.reserveTx
            (t.startAdvance .wind).replied .wind (ok []))

/-- R37, R38 (with R6, R7, R10, R30, R35, R40): an advance asked of the transport: what starts nothing, what fails at once, and
else the aim it takes, with the LIMIT entry of a declared length written when the table holds none. And an aim: the roll's end,
the full table, a frame passed over as VOID (ZONE), the start of stepping with its SLOW and STOP entries and its interval
registers, or, with the count at or beyond the destination, the settle without a step, which ends at once when the settle time
is 0. And what decides a window: the first present zone entry, in entry order, that has a count in it. Where the manual leaves
a point open, the choice is the model's: log entry 53 (a settle without a step loads no interval). -/
def Obligations.AdvanceTakesItsAim : Prop :=
  (∀ (q : Requester) (s : State), s.transport.advance ≠ none ∨ s.openRoll = none → s.startAdvance q = s) ∧
  (∀ (q : Requester) (r : Roll) (s : State), s.transport.advance = none → s.openRoll = some r →
    let cpf := cpfOf s.store.conf.encoder
    let limit := match r.length, s.transport.limit with
      | some len, none => some { value := (r.base : Int) + len * cpf, armed := decide (s.transport.count < r.base + len * cpf) }
      | _, old => old
    (r.state = .ended ∨ s.gateFrame ≠ none → s.startAdvance q = s) ∧
    (r.state ≠ .ended → s.gateFrame = none → r.positionValid = false → s.startAdvance q = s.reportAdvance q .jam) ∧
    (r.state ≠ .ended → s.gateFrame = none → r.positionValid = true →
      s.startAdvance q = ({ s with transport := { s.transport with limit := limit } } : State).aim q)) ∧
  (∀ (q : Requester) (r : Roll) (s : State), s.openRoll = some r →
    let cpf := cpfOf s.store.conf.encoder
    let dest : Int := r.base + r.frameCount * cpf
    let slowAt := dest - s.store.conf.slowDist
    let n := r.frameCount + 1
    let ended := 1000 < n ∨ (∃ len, r.length = some len ∧ len < n) ∨ r.tail = some 0
    let kind := s.store.classify dest (dest + cpf - 1)
    let armed := decide (s.transport.count < slowAt)
    let rested : Transport := { s.transport with advance := none, slow := none, stop := none, ired := true }
    let aimed : Transport :=
      { s.transport with
        slow := some { value := slowAt, armed := armed }
        stop := some { value := dest, armed := decide (s.transport.count < dest) }
        ired := false }
    let going (phase : AdvancePhase) : Option Advance :=
      some { requester := q, phase := phase, dest := dest, noted := kind == some .note, stallWatch := 0, counted := false }
    (ended → s.aim q =
      ((({ s with transport := rested } : State).setRoll { r with state := .ended }).raise (.rollState r.number .ended)).reportAdvance
        q .ended) ∧
    (¬ended → 1024 ≤ s.store.frames.length → s.aim q = ({ s with transport := rested } : State).reportAdvance q .tableFull) ∧
    (¬ended → s.store.frames.length < 1024 → kind = some .leader ∨ kind = some .splice →
      s.aim q = ({ s with
        store :=
          { s.store with
            frames := s.store.frames ++
              [{ roll := r.number, number := n, state := .void, gateCount := none, cause := some .zone, ref := none,
                 computed := none, measured := none, selection := none, label := .none, charged := false }]
            rolls := replaceRoll { r with frameCount := n, tail := r.tail.map (· - 1) } s.store.rolls } } : State).aim q) ∧
    (¬ended → s.store.frames.length < 1024 → kind ≠ some .leader → kind ≠ some .splice →
      (s.transport.count < dest →
        s.aim q = { s with
          transport :=
            { aimed with
              active := s.store.interval 0
              buffered := if armed then s.store.interval 1 else s.store.interval 0
              rampPos := if armed then 1 else 0
              rampDir := if armed then .accel else .decel
              advance := going (.stepping none) } }) ∧
      (dest ≤ s.transport.count →
        let t : State := { s with transport := { aimed with advance := going (.settling s.store.conf.settle) } }
        (0 < s.store.conf.settle → s.aim q = t) ∧
        (s.store.conf.settle = 0 → s.live = true → exec .settleExpiry t = .next (s.aim q))))) ∧
  (∀ (low high : Int) (before after : List Zone) (z : Zone) (s : State),
    let entries := s.store.zone0.toList ++ s.store.zones
    let outside (y : Zone) : Prop := high < y.low ∨ y.high < low
    (entries = before ++ z :: after → (∀ y ∈ before, outside y) → ¬outside z → s.store.classify low high = some z.kind) ∧
    ((∀ y ∈ entries, outside y) → s.store.classify low high = none)) ∧
  ∀ (n : Nat) (v : Nat) (s : State), s.store.ramp[n]? = some v → s.store.interval n = v

/-- R47, R166, R177 (with R55, R90, R106): CONF of every field: GATETOL and ENCODER are refused while a roll is open; a value
of a clamped field is brought into its range in the encoder mode in force, stored and answered; BAUD is one of four rates, of
which the one in force changes nothing; a changed ENCODER sets its three fields; a name that is no field is refused; and the
two forms that only ask. Where the manual leaves a point open, the choice is the model's: log entries 18, 21 and 30. -/
def Obligations.ConfRequests : Prop :=
  (∀ (f : NumField) (v : Int) (s : State), s.canTake = true → f ≠ .baud →
     let cpf := cpfOf s.store.conf.encoder
     let range : Nat × Nat := match f with
       | .leader => (0, 30)
       | .tail => (0, 12)
       | .slipTol => (0, cpf / 2)
       | .gateTol => (0, cpf / 2 - 1)
       | .slowDist => (0, cpf - 1)
       | .settle => (0, 500)
       | .stall => (16, 1000)
       | .samples => (4, 64)
       | .openTo => (10, 500)
       | .closeTo => (10, 500)
       | .warmup => (0, 10000)
       | .baud => (0, 0)
     let w := (nearest range.1 range.2 v).toNat
     exec (.confWrite (.num f v)) s = .next (
       if f = .gateTol ∧ s.openRoll ≠ none then s.replied .conf (refuse .busy)
       else
         { s with store := { s.store with conf := s.store.conf.set f w } }.replied .conf
           (ok [.word (confName (.num f)), numF w] (clampedAt 2 range.1 range.2 v)))) ∧
  (∀ (mode : Option EncMode) (v : Int) (field : Option ConfField) (s : State), s.canTake = true →
     exec (.confWrite (.encoder mode)) s = .next (
       match mode with
       | none => s.replied .conf (refuse .range)
       | some m =>
         if s.openRoll ≠ none then s.replied .conf (refuse .busy)
         else
           let old := s.store.conf
           let new := if m = old.encoder then old
             else if m = .quad then { old with encoder := m, slipTol := 6, gateTol := 12, slowDist := 48 }
             else { old with encoder := m, slipTol := 2, gateTol := 3, slowDist := 12 }
           { s with store := { s.store with conf := new } }.replied .conf
             (ok [.word (encModeWord m), numF new.slipTol, numF new.gateTol, numF new.slowDist])) ∧
     exec (.confWrite (.num .baud v)) s = .next (
       if v = 9600 ∨ v = 19200 ∨ v = 38400 ∨ v = 57600 then
         if v = s.link.rate then s.replied .conf (ok [.word (confName (.num .baud)), numF s.store.conf.baud])
         else { s with store := { s.store with conf := { s.store.conf with baud := v.toNat } } }.replied .conf
           (.accept [.word (confName (.num .baud)), .num v] [] (.baud v.toNat))
       else s.replied .conf (refuseAt .range 2)) ∧
     exec (.confWrite .unknown) s = .next (s.replied .conf (refuseAt .range 1)) ∧
     exec (.confQuery field) s = .next (s.replied .conf (
       match field with
       | none => refuseAt .range 1
       | some .encoder => ok [.word (encModeWord s.store.conf.encoder)]
       | some (.num f) => ok [numF (s.store.conf.get f)])) ∧
     exec .confList s = .next (s.replied .conf (ok (
       [.word (confName .encoder), .word (encModeWord s.store.conf.encoder)] ++
       [NumField.leader, .tail, .slipTol, .gateTol, .slowDist, .settle, .stall, .samples, .openTo, .closeTo, .warmup,
         .baud].flatMap fun f => [.word (confName (.num f)), numF (s.store.conf.get f)]))))

/-- R5, R16, R24, R26, R32, R42, R110, R114, R116: which change of the encoder lines is a count event in each encoder mode, and
in which direction it counts; an index edge and a change of the film-end switch; and the failure of an advance: the coils, the
entries and the advance itself, and what each requester makes of it: a WIND's notice, a threading's fault, and, in WINDING, the
end of an item whose cancellation waited and then the halt, with an ACTIVE item or without one. A failure while the last step
of an ABRT is pending ends the advance ABORTED, and nothing more. Where the manual leaves a point open, the choice is the
model's: log entries 2 (a failure with no advance), 10 (a failure after a STOP, a LIMIT or an ABRT), 35, 54 (PULSEDIR) and 74
(the reference kept when the index check starts again). -/
def Obligations.EncoderIndexAndFilmEndEvents : Prop :=
  (∀ (a b : Bool) (s : State), s.live = true →
     let t : State := { s with lines := { s.lines with enca := a, encb := b } }
     exec (.countEvent a b) s = .next (
       match s.store.conf.encoder with
       | .quad =>
         if s.lines.enca ≠ a ∧ s.lines.encb = b then t.countEvent (decide (a ≠ b))
         else if s.lines.enca = a ∧ s.lines.encb ≠ b then t.countEvent (decide (b = a))
         else t
       | .pulsedir => if s.lines.enca = true ∧ a = false then t.countEvent (decide (b = false)) else t
       | .count => if s.lines.enca = true ∧ a = false then t.countEvent true else t)) ∧
  (∀ (isOpen : Bool) (s : State), s.live = true →
     exec .indexEdge s = .next (
       let reference := s.transport.index.reference
       let restart : State := { s with
         transport := { s.transport with index := { state := .running, reference := s.transport.count } } }
       match s.transport.index.state with
       | .starting => restart
       | .running =>
         if s.transport.advance = none then
           { s with transport := { s.transport with index := { state := .starting, reference := reference } } }
         else if s.store.conf.slipTol < (s.transport.count - reference - 2 * (cpfOf s.store.conf.encoder : Int)).natAbs then
           restart.failAdvance .slip
         else restart) ∧
     exec (.filmEndChange isOpen) s = .next (
       let t : State := { s with
         lines := { s.lines with fendOpen := isOpen }, transport := { s.transport with filmEndOpen := isOpen } }
       match s.openRoll with
       | some r =>
         if isOpen = true ∧ s.transport.filmEndOpen = false ∧ r.tail = none then
           t.setRoll { r with tail := some s.store.conf.tail }
         else t
       | none => t)) ∧
  (∀ (e : AdvanceEnd) (s : State), s.transport.advance = none → s.failAdvance e = s) ∧
  (∀ (a : Advance) (e : AdvanceEnd) (s : State), s.transport.advance = some a → e = .jam ∨ e = .slip →
     let cause : HaltCause := if e = .jam then .jam else .slip
     let fault : ThreadFault := if e = .jam then .jam else .slip
     let t : State := { s with transport := { s.transport with advance := none, slow := none, stop := none, ired := true } }
     let ended : State := match s.active with
       | some (o, it) => if it.cancelPending then t.endActive o.number it true else t
       | none => t
     (a.phase = .stepping (some .abort) → s.failAdvance e = t) ∧
     (a.phase ≠ .stepping (some .abort) →
       (a.requester = .wind → s.failAdvance e = t.raise (.halt cause true)) ∧
       (∀ r, a.requester = .load → s.openRoll = some r → r.state = .threading →
         s.failAdvance e = (t.setRoll { r with fault := some fault }).raise (.rollState r.number .threading)) ∧
       (a.requester = .cycle → s.cycle.state = .winding →
         s.failAdvance e = ({ ended with
           cycle :=
             { ended.cycle with
               state := .halted cause (ended.openRoll.map Roll.number), copyLamp := { on := false, warm := false },
               stageLamp := { on := false, warm := false }, pause := false, warmTimer := none } }).raise (.halt cause false)) ∧
       (a.requester = .cycle → s.cycle.state ≠ .winding → s.failAdvance e = t)))

/-- R25, R27, R43: a count event: a held count stands; at a limit it becomes held, the open roll's position becomes invalid and
an advance fails with JAM; a fall re-arms the entries just above the count; a rise disarms the entries at the count, and those
that were armed fire: SLOW turns the ramp, STOP and LIMIT end the stepping, each mark raises its notice, and a LIMIT during a
settle ends the roll. Where the manual leaves a point open, the choice is the model's: log entries 9 and 10. -/
def Obligations.CountEventMovesTargets : Prop :=
  ∀ (s : State),
    let rearm (c : Int) (e : Target) : Target := { e with armed := e.armed || e.value == c + 1 }
    let disarm (c : Int) (e : Target) : Target := { e with armed := e.armed && e.value != c }
    let seen (a : Advance) : Advance :=
      if a.phase = .stepping none ∨ a.phase = .stepping (some .stop) ∨ a.phase = .stepping (some .limit) ∨
          a.phase = .stepping (some .abort) then
        { a with stallWatch := 0, counted := true }
      else a
    (s.transport.held = true → ∀ up, s.countEvent up = s) ∧
    (s.transport.held = false → s.transport.count = 8388607 ∨ s.transport.count = -8388608 →
      let t : State := { s with transport := { s.transport with held := true } }
      s.countEvent (decide (s.transport.count = 8388607)) =
        (match s.openRoll with
          | some r => t.setRoll { r with positionValid := false }
          | none => t).failAdvance .jam) ∧
    (s.transport.held = false → -8388608 < s.transport.count →
      let c := s.transport.count - 1
      s.countEvent false = { s with
        transport :=
          { s.transport with
            count := c
            slow := s.transport.slow.map (rearm c)
            stop := s.transport.stop.map (rearm c)
            limit := s.transport.limit.map (rearm c)
            marks := s.transport.marks.map fun m => { m with armed := m.armed || m.value == c + 1 }
            advance := s.transport.advance.map seen } }) ∧
    (s.transport.held = false → s.transport.count < 8388607 →
      let c := s.transport.count + 1
      let slowFires := s.transport.slow = some { value := c, armed := true }
      let stopFires := s.transport.stop = some { value := c, armed := true }
      let limitFires := s.transport.limit = some { value := c, armed := true }
      let t : State := { s with
        transport :=
          { s.transport with
            count := c
            slow := s.transport.slow.map (disarm c)
            stop := s.transport.stop.map (disarm c)
            limit := s.transport.limit.map (disarm c)
            marks := s.transport.marks.map fun m => { m with armed := m.armed && m.value != c }
            advance := s.transport.advance.map fun a =>
              if limitFires ∧ (a.phase = .stepping none ∨ a.phase = .stepping (some .stop)) then
                { seen a with phase := .stepping (some .limit) }
              else if stopFires ∧ a.phase = .stepping none then { seen a with phase := .stepping (some .stop) }
              else seen a
            rampDir := if slowFires ∧ s.transport.advance ≠ none then .decel else s.transport.rampDir } }
      let u := match s.transport.advance, s.openRoll with
        | some { requester := q, phase := .settling _, .. }, some r =>
          if limitFires then ((t.endAdvance).changeRoll r .ended).reportAdvance q .ended else t
        | some { phase := .settling _, .. }, none => if limitFires then t.endAdvance else t
        | _, _ => t
      s.countEvent true = (s.transport.marks.filter fun m => m.armed && m.value == c).foldl
        (fun v m => v.raise (.rollMark m.roll m.number)) u)

/-- R33, R34, R35, R39, R40, R43, R44: the coils that each phase index energises; and an expiry of the step timer: the staged
pattern is driven and the next staged, the buffered interval becomes active, the feeder moves one entry in its direction, and
the stall watch counts a step without a count event; or stepping ends, at a STOP with the settle, which a settle time of 0 ends
at once, at a LIMIT with the roll ENDED, at an ABRT with the end of the advance. Where the manual leaves a point open, the
choice is the model's: log entries 10 and 44. -/
def Obligations.StepTimerDrivesAndFeeds : Prop :=
  (∀ (t : Transport), t.phase < 8 →
    (t.coils.a = true ↔ t.phase = 7 ∨ t.phase = 0 ∨ t.phase = 1) ∧
    (t.coils.b = true ↔ t.phase = 1 ∨ t.phase = 2 ∨ t.phase = 3) ∧
    (t.coils.c = true ↔ t.phase = 3 ∨ t.phase = 4 ∨ t.phase = 5) ∧
    (t.coils.d = true ↔ t.phase = 5 ∨ t.phase = 6 ∨ t.phase = 7)) ∧
  ∀ (a : Advance) (s : State), s.live = true → s.transport.advance = some a →
    let driven : Transport := { s.transport with phase := s.transport.staged, staged := (s.transport.staged + 1) % 8 }
    let watch := if a.counted then a.stallWatch else a.stallWatch + 1
    let pos := if s.transport.rampDir = .accel then min (s.transport.rampPos + 1) (s.store.ramp.length - 1)
      else s.transport.rampPos - 1
    let stepped : State := { s with
      transport :=
        { driven with
          active := s.transport.buffered, buffered := s.store.interval pos, rampPos := pos
          advance := some { a with stallWatch := watch, counted := false } } }
    (a.phase = .stepping none →
      exec .stepTimerExpiry s = .next (if s.store.conf.stall ≤ watch then stepped.failAdvance .jam else stepped) ∧
      exec .stallLimit s = .next (if s.store.conf.stall ≤ watch then stepped.failAdvance .jam else s)) ∧
    (a.phase = .stepping (some .stop) → 0 < s.store.conf.settle →
      exec .stepTimerExpiry s = .next { s with
        transport := { driven with advance := some { a with phase := .settling s.store.conf.settle } } }) ∧
    (a.phase = .stepping (some .stop) → s.store.conf.settle = 0 →
      exec .stepTimerExpiry s =
        exec .settleExpiry { s with transport := { driven with advance := some { a with phase := .settling 0 } } }) ∧
    (∀ r, a.phase = .stepping (some .limit) → s.openRoll = some r →
      exec .stepTimerExpiry s = .next (((({ s with
        transport := { driven with advance := none, slow := none, stop := none, ired := true } } : State).setRoll
          { r with state := .ended }).raise (.rollState r.number .ended)).reportAdvance a.requester .ended)) ∧
    (a.phase = .stepping (some .abort) →
      exec .stepTimerExpiry s = .next ({ s with
        transport := { driven with advance := none, slow := none, stop := none, ired := true } }.reportAdvance a.requester .aborted))

/-- R6, R10, R16, R40, R41, R43, R110, R111: the end of a settle: the count is the last completed stop count; a roll that is
over ends, and with no free record the advance ends TABLE_FULL; else a count within the gate tolerance makes the frame
POSITIONED, noted or not, which makes a THREADING roll LOADED and discards queued contexts of another film, ends the advance
and is reported; any other makes it VOID (MISREG) and the advance takes its next aim. And what each requester makes of the
POSITIONED end: a WIND and a threading start a selection in WAITING; a cycle that is WINDING ends an item whose cancellation
waited, and stops for a pending pause, makes a selection, or goes forward. And of the other ends: a cycle that is WINDING ends
such an item and halts with its cause, its halt roll, its lamps off and its notice; a WIND raises the cause with WIND and leaves
the cycle; a threading records its fault with a ROLL notice, but for ENDED; and ABORTED changes nothing. -/
def Obligations.SettleJudgesTheStop : Prop :=
  (∀ (a : Advance) (ms : Nat) (r : Roll) (s : State), s.live = true → s.transport.advance = some a → a.phase = .settling ms →
    s.openRoll = some r →
    let c := s.transport.count
    let n := r.frameCount + 1
    let ended := 1000 < n ∨ (∃ len, r.length = some len ∧ len < n) ∨ r.tail = some 0
    let read : State := { s with store := { s.store with lastStop := c } }
    let rested : Transport := { s.transport with advance := none, slow := none, stop := none, ired := true }
    let hit : Bool := (c - a.dest).natAbs ≤ s.store.conf.gateTol
    let f : Frame :=
      { roll := r.number, number := n, state := if hit then .positioned else .void, gateCount := if hit then some c else none,
        cause := if hit then none else some .misreg, ref := none, computed := none, measured := none, selection := none,
        label := .none, charged := false }
    let gained : Roll := { r with frameCount := n, tail := r.tail.map (· - 1) }
    let t : State := { read with
      store := { read.store with frames := s.store.frames ++ [f], rolls := replaceRoll gained s.store.rolls } }
    let u := if a.noted then t.raise (.zone r.number n) else t
    let loaded := (u.setRoll { gained with state := .loaded }).raise (.rollState r.number .loaded)
    let compared := if ∃ x ∈ s.contexts, x.film ≠ r.film then loaded.discardQueue else loaded
    let stop (v : State) : State := { v with transport := rested }
    (ended → exec .settleExpiry s =
      .next ((((stop read).setRoll { r with state := .ended }).raise (.rollState r.number .ended)).reportAdvance a.requester .ended)) ∧
    (¬ended → 1024 ≤ s.store.frames.length →
      exec .settleExpiry s = .next ((stop read).reportAdvance a.requester .tableFull)) ∧
    (¬ended → s.store.frames.length < 1024 →
      exec .settleExpiry s = .next (
        if hit then (stop (if r.state = .threading then compared else u)).reportAdvance a.requester .positioned
        else u.aim a.requester))) ∧
  (∀ (s : State),
    (s.reportAdvance .wind .positioned = if s.cycle.isWaiting then s.select else s) ∧
    (s.reportAdvance .load .positioned = if s.cycle.isWaiting then s.select else s) ∧
    (s.cycle.state ≠ .winding → s.reportAdvance .cycle .positioned = s) ∧
    (s.cycle.state = .winding →
      let t := match s.active with
        | some (o, it) => if it.cancelPending then s.endActive o.number it true else s
        | none => s
      s.reportAdvance .cycle .positioned =
        if t.cycle.pause = true then
          { t with
            cycle :=
              { t.cycle with
                state := .stopped, copyLamp := { on := false, warm := false }, stageLamp := { on := false, warm := false },
                warmTimer := none, pause := false } }
        else if t.active = none then t.select
        else t.forwardAtGate)) ∧
  (∀ (s : State),
    let ended : State := match s.active with
      | some (o, it) => if it.cancelPending then s.endActive o.number it true else s
      | none => s
    let halted (cause : HaltCause) : State :=
      ({ ended with
        cycle :=
          { ended.cycle with
            state := .halted cause (ended.openRoll.map Roll.number), copyLamp := { on := false, warm := false },
            stageLamp := { on := false, warm := false }, pause := false, warmTimer := none } }).raise (.halt cause false)
    let faulted (fault : ThreadFault) : State := match s.openRoll with
      | some r =>
        if r.state = .threading then (s.setRoll { r with fault := some fault }).raise (.rollState r.number .threading) else s
      | none => s
    (∀ q, s.reportAdvance q .aborted = s) ∧
    (s.cycle.state ≠ .winding → ∀ e, s.reportAdvance .cycle e = s) ∧
    (s.cycle.state = .winding →
      s.reportAdvance .cycle .ended = halted .rollEnd ∧ s.reportAdvance .cycle .tableFull = halted .tableFull ∧
      s.reportAdvance .cycle .jam = halted .jam ∧ s.reportAdvance .cycle .slip = halted .slip) ∧
    (s.reportAdvance .wind .ended = s.raise (.halt .rollEnd true) ∧
      s.reportAdvance .wind .tableFull = s.raise (.halt .tableFull true) ∧
      s.reportAdvance .wind .jam = s.raise (.halt .jam true) ∧ s.reportAdvance .wind .slip = s.raise (.halt .slip true)) ∧
    (s.reportAdvance .load .ended = s ∧ s.reportAdvance .load .tableFull = faulted .tableFull ∧
      s.reportAdvance .load .jam = faulted .jam ∧ s.reportAdvance .load .slip = faulted .slip))

/-! ## Light metering (chapter 3) -/

/-- R50, R52, R53: the three forms of OFFS and the two of GAIN: the refusals in their order, the slot or the clamped gain that
is stored and answered, and the queries; and the offset that applies to a channel, that of the lowest-numbered slot that names
it, or 0. The reply to an accepted OFFS gives the slot, its channel and its offset, and then the channel and the offset that
now apply; what the reply to an emptied slot gives is the model's choice (log entry 22). Where the manual leaves a point open,
the choice is the model's: log entry 22. -/
def Obligations.OffsetAndGainRequests : Prop :=
  (∀ (slot channel value : Int) (s : State), s.canTake = true →
     let busy := s.cycle.state = .metering ∨ s.cycle.state = .exposing
     let put (x : Option OffsetSlot) : State :=
       { s with store := { s.store with slots := s.store.slots.setIfInBounds (slot.toNat - 1) x } }
     exec (.offsWrite slot channel value) s = .next (
       if ¬(1 ≤ slot ∧ slot ≤ 4) then s.replied .offs (refuseAt .range 1)
       else
         match channelOf channel with
         | none => s.replied .offs (refuseAt .range 2)
         | some ch =>
           if busy then s.replied .offs (refuse .busy)
           else
             let x : OffsetSlot := { channel := ch, offset := (nearest 0 8191 value).toNat }
             (put (some x)).replied .offs
               (ok [numF slot.toNat, numF ch.val, numF x.offset, numF ch.val, numF ((put (some x)).offsetOf ch)]
                 (clampedAt 3 0 8191 value))) ∧
     exec (.offsEmpty slot) s = .next (
       if ¬(1 ≤ slot ∧ slot ≤ 4) then s.replied .offs (refuseAt .range 1)
       else if busy then s.replied .offs (refuse .busy)
       else (put none).replied .offs (ok [numF slot.toNat, .empty, .empty])) ∧
     exec .offsList s = .next (s.replied .offs (ok ((s.store.slots.toList.zipIdx 1).flatMap fun p =>
       match p.1 with
       | some x => [numF p.2, numF x.channel.val, numF x.offset]
       | none => [numF p.2, .empty, .empty])))) ∧
  (∀ (channel value : Int) (asked : Option Int) (s : State), s.canTake = true →
     exec (.gainWrite channel value) s = .next (
       match channelOf channel with
       | none => s.replied .gain (refuseAt .range 1)
       | some ch =>
         if s.cycle.state = .metering ∨ s.cycle.state = .exposing then s.replied .gain (refuse .busy)
         else
           let g := (nearest 8192 32767 value).toNat
           let t : State := { s with store := { s.store with gains := s.store.gains.set ch g } }
           t.replied .gain (ok [.num channel, numF g] (clampedAt 2 8192 32767 value))) ∧
     exec (.gainQuery asked) s = .next (s.replied .gain (
       match asked with
       | none => ok (s.store.gains.toList.map numF)
       | some c =>
         match channelOf c with
         | none => refuseAt .range 1
         | some ch => ok [numF s.store.gains[ch]]))) ∧
  ∀ (ch : Fin 4) (s : State),
    let of (x : Option OffsetSlot) : Prop := ∃ y, x = some y ∧ y.channel = ch
    (∀ before y after, s.store.slots.toList = before ++ some y :: after → y.channel = ch → (∀ x ∈ before, ¬of x) →
      s.offsetOf ch = y.offset) ∧
    ((∀ x ∈ s.store.slots.toList, ¬of x) → s.offsetOf ch = 0)

/-- R57, R60, R63: the forms of CALB and of WTCH: the refusals in their order, the calibration that an accepted CALB begins,
the window that is replaced whole with its last trip made absent, and the queries. Where the manual leaves a point open, the
choice is the model's: log entry 19. -/
def Obligations.CalibrationAndWindowRequests : Prop :=
  (∀ (channel reference : Int) (asked : Option Int) (s : State), s.canTake = true →
     let record (r : Option CalRecord) : List RField := match r with
       | some x =>
         [.word (if x.ok then ['O', 'K'] else ['C', 'A', 'L', 'R', 'A', 'N', 'G', 'E']), numF x.reference, numF x.average,
           numF x.candidate]
       | none => [.empty, .empty, .empty, .empty]
     exec (.calbStart channel reference) s = .next (
       match channelOf channel with
       | none => s.replied .calb (refuseAt .range 1)
       | some ch =>
         if s.meter.calibration ≠ none ∨ s.cycle.state = .metering ∨ s.cycle.state = .exposing then
           s.replied .calb (refuse .busy)
         else
           let r := (nearest 1000 60000 reference).toNat
           let t : State := { s with
             meter := { s.meter with calibration := some { channel := ch, reference := r, sum := 0, taken := 0 } } }
           t.replied .calb (ok [.num channel, numF r] (clampedAt 2 1000 60000 reference))) ∧
     exec (.calbQuery asked) s = .next (s.replied .calb (
       match asked with
       | none =>
         ok ((match s.meter.calibration with
           | some c => [.word ['R', 'U', 'N', 'N', 'I', 'N', 'G'], numF c.channel.val, numF c.reference, numF c.taken]
           | none => [.word ['I', 'D', 'L', 'E'], .empty, .empty, .empty]) ++ s.meter.records.toList.flatMap record)
       | some c =>
         match channelOf c with
         | none => refuseAt .range 1
         | some ch => ok (record s.meter.records[ch])))) ∧
  (∀ (n mask low high : Int) (asked : Option Int) (s : State), s.canTake = true →
     let listing (k : Nat) : List RField := match s.store.windows[k - 1]? with
       | some w =>
         [numF k, numF w.mask, numF w.low, numF w.high] ++
           match s.meter.trips[k - 1]? with
           | some (some t) => [numF t.channel.val, numF t.value]
           | _ => [.empty, .empty]
       | none => []
     exec (.wtchWrite n mask low high) s = .next (
       let w : Window := { mask := mask.toNat, low := (nearest 0 65535 low).toNat, high := (nearest 0 65535 high).toNat }
       if ¬(1 ≤ n ∧ n ≤ 3) then s.replied .wtch (refuseAt .range 1)
       else if ¬(0 ≤ mask ∧ mask ≤ 15) then s.replied .wtch (refuseAt .range 2)
       else if w.high < w.low then s.replied .wtch (refuseAt .range 3)
       else if s.cycle.state = .exposing then s.replied .wtch (refuse .busy)
       else
         let t : State := { s with
           store := { s.store with windows := s.store.windows.setIfInBounds (n.toNat - 1) w }
           meter := { s.meter with trips := s.meter.trips.setIfInBounds (n.toNat - 1) none } }
         t.replied .wtch (ok [.num n, numF w.mask, numF w.low, numF w.high, .empty, .empty]
           (clampedAt 3 0 65535 low ++ clampedAt 4 0 65535 high))) ∧
     exec (.wtchQuery asked) s = .next (s.replied .wtch (
       match asked with
       | none => ok (listing 1 ++ listing 2 ++ listing 3)
       | some k => if 1 ≤ k ∧ k ≤ 3 then ok (listing k.toNat) else refuseAt .range 1)))

/-- R64 (with R50, R51): READ of one channel and of all four: the latest reading, its corrected value worked out at the READ,
the applying slot and the gain; absent fields are empty. -/
def Obligations.ReadReportsCells : Prop :=
  ∀ (channel : Option Int) (s : State), s.canTake = true →
    let fields (ch : Fin 4) : List RField :=
      let slot := (s.store.slots.toList.zipIdx 1).find? fun p => p.1.any fun x => x.channel == ch
      let offset := ((slot.bind Prod.fst).map OffsetSlot.offset).getD 0
      [numF ch.val] ++
      (match s.meter.latest[ch] with
        | some r => [numF r, .num (min 65535 (max 0 ((r : Int) - offset) * s.store.gains[ch] / 16384))]
        | none => [.empty, .empty]) ++
      [match slot with
        | some p => numF p.2
        | none => .empty,
       numF s.store.gains[ch]]
    exec (.read channel) s = .next (s.replied .read (
      match channel with
      | none => ok (fields 0 ++ fields 1 ++ fields 2 ++ fields 3)
      | some c =>
        match channelOf c with
        | none => refuseAt .range 1
        | some ch => ok (fields ch)))

/-- R49, R54, R58, R62: a completed reading that no metering takes, with no metering asked, one that waits, or one of another
channel: it becomes the channel's latest reading and the converter goes on; a calibration of the channel takes it, and
completes at its eighth, and a metering that waits then begins; a metering is else left as it stands; and the corrected value
of the reading, by the gain then in force, is judged against the live windows, and a trip ends the live span and cuts an
exposure in OPEN short. -/
def Obligations.ReadingServesCalibrationAndWindows : Prop :=
  ∀ (r : Nat) (s : State), s.live = true → r ≤ 65520 →
    (∀ m, s.meter.metering = some m → m.begun = false ∨ m.channel ≠ s.meter.turn) →
    let ch := s.meter.turn
    let t : State := { s with meter := { s.meter with latest := s.meter.latest.set ch (some r), turn := ch + 1 } }
    let u : State := match s.meter.calibration with
      | some c =>
        if c.channel = ch then
          if 7 ≤ c.taken then
            let average := (c.sum + r) / 8
            let candidate := c.reference * 16384 / max 1 (average - s.offsetOf ch)
            let good : Bool := 8192 ≤ candidate ∧ candidate ≤ 32767
            let gain := if good then candidate else s.store.gains[ch]
            ({ t with
              store := { s.store with gains := s.store.gains.set ch gain }
              meter :=
                { t.meter with
                  calibration := none
                  records := s.meter.records.set ch
                    (some { ok := good, reference := c.reference, average := average, candidate := candidate })
                  metering := s.meter.metering.map fun m : Metering => { m with begun := true } } }).raise
              (.meter ch.val good gain)
          else { t with meter := { t.meter with calibration := some { c with sum := c.sum + r, taken := c.taken + 1 } } }
        else t
      | none => t
    let v := min 65535 ((r - u.offsetOf ch) * u.store.gains[ch] / 16384)
    let fails (w : Window) : Bool := w.mask / 2 ^ ch.val % 2 = 1 ∧ (v < w.low ∨ w.high < v)
    exec (.readingComplete r) s = .next (
      if s.meter.live = true ∧ s.store.windows.any fails then
        let tripped : State := { u with
          meter :=
            { u.meter with
              live := false
              trips := (u.meter.trips.zip u.store.windows).map fun p =>
                if fails p.2 then some { channel := ch, value := v } else p.1 } }
        if s.shutter.phase = .opened then
          { tripped with
            shutter :=
              { s.shutter with phase := .closing (some .lamp) false, coil := false, timer := some s.store.conf.closeTo } }
        else tripped
      else u)

/-- R54, R70, R72, R75, R76, R78, R108: a completed reading of the channel of a metering that has begun, with no calibration in
progress and the windows not live, is added to the sum; the last one hands the average and its corrected value to a fill, and
the cycle goes forward, or stops for a pending pause. A fill, of a metering, of the item's stored light or of a MANUAL item,
makes one context for each PENDING step of the current set, in step order, computed from the base log, with the steps QUEUED; a
metering fill stores its light. A fill changes nothing when no roll is open or the queue is not empty. -/
def Obligations.MeteringFillsTheQueue : Prop :=
  (∀ (r : Nat) (m : Metering) (s : State), s.live = true → r ≤ 65520 → s.meter.calibration = none → s.meter.live = false →
     s.meter.metering = some m → m.begun = true → m.channel = s.meter.turn →
     let ch := s.meter.turn
     let t : State := { s with meter := { s.meter with latest := s.meter.latest.set ch (some r), turn := ch + 1 } }
     let average := (m.sum + r) / m.samples
     let u := ({ t with meter := { t.meter with metering := none } }).fill
       (.metering average (min 65535 ((average - s.offsetOf ch) * s.store.gains[ch] / 16384)))
     (m.taken + 1 < m.samples →
       exec (.readingComplete r) s = .next
         { t with meter := { t.meter with metering := some { m with sum := m.sum + r, taken := m.taken + 1 } } }) ∧
     (m.samples ≤ m.taken + 1 → u.meter.live = false →
       (u.cycle.pause = true →
         exec (.readingComplete r) s = .next { u with
           cycle :=
             { u.cycle with
               state := .stopped, copyLamp := { on := false, warm := false }, stageLamp := { on := false, warm := false },
               warmTimer := none, pause := false } }) ∧
       (u.cycle.pause = false → (u.forward).meter.live = false → exec (.readingComplete r) s = .next u.forward))) ∧
  (∀ (averaged corrected : Nat) (o : Order) (it : Item) (r : Roll) (rec : FilmRecord) (steps : List StepStatus)
     (offsets : List Int) (set : Nat) (s : State),
     (∀ src, s.contexts ≠ [] ∨ s.openRoll = none → s.fill src = s) ∧
     (s.contexts = [] → s.openRoll = some r → s.active = some (o, it) → s.film r.film = some rec →
       it.steps = some steps → it.captured = some offsets → it.currentSet = some set →
       let queued (i : Item) : Item := { i with steps := i.steps.map fun l => l.map fun st => if st = .pending then .queued else st }
       let contexts (t0 : Int) (flags : Flags) (light : Option Nat) : List Context := offsets.zipIdx.filterMap fun p =>
         if steps[p.2]? = some .pending then
           let x := computeStep t0 rec.recip flags p.1
           some
             { ref := { order := o.number, item := it.number, set := set, step := p.2 + 1, offset := p.1 }
               logT := x.logT
               planned := x.planned
               flags := x.flags
               light := light
               source := it.mode.source
               film := r.film }
         else none
       let clear : Flags :=
         { meterHigh := false, meterLow := false, manual := false, recip := false, clampLow := false, clampHigh := false }
       (∀ filter : Int, it.mode = .copy filter ∨ it.mode = .stage filter →
         let trim := if it.mode = .copy filter then s.store.copyTrim else s.store.stageTrim
         let base (l : Nat) : Int := (rec.k : Int) - brightness (max 1 l) + filter + trim
         let flags (l : Nat) (high : Bool) : Flags := { clear with meterHigh := high, meterLow := decide (l < 16) }
         let high : Bool := decide (65000 ≤ averaged)
         s.fill (.metering averaged corrected) =
           { s.updateItem o.number it.number fun i => queued { i with stored := some { light := corrected, high := high } } with
             contexts := contexts (base corrected) (flags corrected high) (some corrected) } ∧
         ∀ st : StoredLight, it.stored = some st →
           s.fill .stored =
             { s.updateItem o.number it.number queued with
               contexts := contexts (base st.light) (flags st.light st.high) (some st.light) }) ∧
       ∀ (log : Nat) (lamp : Light), it.mode = .manual log lamp →
         s.fill .manual =
           { s.updateItem o.number it.number queued with
             contexts := contexts log { clear with manual := true } none }))

/-! ## Exposure and bracketing (chapter 4) -/

/-- R66, R67, R68, R69: the two forms of FILM, of PLAN and of TRIM: the refusals in their order, the record, plan or trim that
is written whole with its figures clamped, and the queries: the reply to a write begins with the id, and that to FILM id is the
record; and the record and the plan of an id. Where the manual leaves a point open, the choice is the model's: log entry 69
(RANGE, 1 for a query's id out of range). -/
def Obligations.FilmPlanAndTrimRequests : Prop :=
  (∀ (id : Int) (name code : Text) (k : Int) (recip : List (Int × Int)) (asked : Option Int) (s : State), s.canTake = true →
     let stored (r : FilmRecord) : List RField :=
       [.text r.name, .text r.code, numF r.k] ++ r.recip.flatMap fun x => [numF x.threshold, numF x.extra]
     exec (.filmWrite id name code k recip) s = .next (
       let steps : List RecipStep := recip.map fun p =>
         { threshold := (nearest 0 191 p.1).toNat, extra := (nearest 1 48 p.2).toNat }
       if 4 < recip.length then s.replied .film (refuse .form)
       else if ¬(1 ≤ id ∧ id ≤ 8) then s.replied .film (refuseAt .range 1)
       else if 16 < name.length then s.replied .film (refuseAt .range 2)
       else if 4 < code.length then s.replied .film (refuseAt .range 3)
       else
         match (steps.zip steps.tail).findIdx? fun p => p.2.threshold ≤ p.1.threshold with
         | some i => s.replied .film (refuseAt .range (7 + 2 * i))
         | none =>
           let r : FilmRecord := { name := name, code := code, k := (nearest 0 383 k).toNat, recip := steps }
           let t : State := { s with store := { s.store with films := s.store.films.setIfInBounds (id.toNat - 1) (some r) } }
           t.replied .film (ok (.num id :: stored r) (clampedAt 4 0 383 k ++ recip.zipIdx.flatMap fun p =>
             clampedAt (5 + 2 * p.2) 0 191 p.1.1 ++ clampedAt (6 + 2 * p.2) 1 48 p.1.2))) ∧
     exec (.filmQuery asked) s = .next (s.replied .film (
       match asked with
       | none => ok ((s.store.films.toList.zipIdx 1).flatMap fun p =>
         match p.1 with
         | some r => [numF p.2, .text r.name]
         | none => [])
       | some n =>
         if 1 ≤ n ∧ n ≤ 8 then
           match s.film n.toNat with
           | some r => ok (stored r)
           | none => refuseAt .none 1
         else refuseAt .range 1))) ∧
  (∀ (id : Int) (offsets : List Int) (asked : Option Int) (source : Option Light) (value : Int)
     (which : Option (Option Light)) (s : State), s.canTake = true →
     exec (.planWrite id offsets) s = .next (
       let l := offsets.map (nearest (-36) 36)
       if offsets.length = 0 ∨ 7 < offsets.length then s.replied .plan (refuse .form)
       else if ¬(0 ≤ id ∧ id ≤ 7) then s.replied .plan (refuseAt .range 1)
       else if id = 0 then s.replied .plan (refuseAt .state 1)
       else
         match l.zipIdx.find? fun p => (l.take p.2).contains p.1 with
         | some p => s.replied .plan (refuseAt .dup (p.2 + 2))
         | none =>
           let t : State := { s with store := { s.store with plans := s.store.plans.setIfInBounds (id.toNat - 1) (some l) } }
           t.replied .plan (ok (.num id :: l.map RField.num) (offsets.zipIdx.flatMap fun p => clampedAt (p.2 + 2) (-36) 36 p.1))) ∧
     exec (.planQuery asked) s = .next (s.replied .plan (
       match asked with
       | none => ok ([numF 0, .num 0] ++ (s.store.plans.toList.zipIdx 1).flatMap fun p =>
         match p.1 with
         | some l => numF p.2 :: l.map RField.num
         | none => [])
       | some n =>
         if n = 0 then ok [.num 0]
         else if 1 ≤ n ∧ n ≤ 7 then
           match s.store.plans[n.toNat - 1]? with
           | some (some l) => ok (l.map RField.num)
           | _ => refuseAt .none 1
         else refuseAt .range 1)) ∧
     exec (.trimWrite source value) s = .next (
       let v := nearest (-36) 36 value
       match source with
       | none => s.replied .trim (refuseAt .range 1)
       | some .copy =>
         ({ s with store := { s.store with copyTrim := v } }).replied .trim
           (ok [.word ['C', 'O', 'P', 'Y'], .num v] (clampedAt 2 (-36) 36 value))
       | some .stage =>
         ({ s with store := { s.store with stageTrim := v } }).replied .trim
           (ok [.word ['S', 'T', 'A', 'G', 'E'], .num v] (clampedAt 2 (-36) 36 value))) ∧
     exec (.trimQuery which) s = .next (s.replied .trim (
       match which with
       | none => ok [.num s.store.copyTrim, .num s.store.stageTrim]
       | some none => refuseAt .range 1
       | some (some .copy) => ok [.num s.store.copyTrim]
       | some (some .stage) => ok [.num s.store.stageTrim]))) ∧
  ∀ (id : Nat) (s : State),
    (1 ≤ id ∧ id ≤ 8 → some (s.film id) = s.store.films[id - 1]?) ∧
    (1 ≤ id ∧ id ≤ 7 → some (s.plan id) = s.store.plans[id - 1]?) ∧ s.plan 0 = some [0]

/-- R71: the brightness logarithm of a light value of 1..65,535: 12 for each doubling, and FRAC of the four bits below the
highest. -/
def Obligations.BrightnessLogarithm : Prop :=
  (∀ (l k : Nat), 2 ^ k ≤ l → l < 2 ^ (k + 1) →
    brightness l = 12 * k + (([0, 1, 2, 3, 4, 5, 6, 6, 7, 8, 8, 9, 10, 10, 11, 11] : List Nat)[l * 16 / 2 ^ k - 16]?).getD 0) ∧
  (∀ (l : Nat), 1 ≤ l → brightness (2 * l) = brightness l + 12) ∧
  (∀ (l m : Nat), 1 ≤ l → l ≤ m → brightness l ≤ brightness m) ∧
  (∀ (l : Nat), 1 ≤ l → l ≤ 65535 → brightness l ≤ 191)

/-- R73, R74: stages 5 to 7 of a step: the extra of the highest threshold at or below T1 in an ascending list, the log T
clamped to 0..191 with its flag, and the planned ticks, which lie in 8..494,592. -/
def Obligations.StepLogAndPlannedTicks : Prop :=
  ∀ (t0 offset : Int) (recip : List RecipStep) (base : Flags),
    recip.Pairwise (fun a b => a.threshold < b.threshold) → (∀ x ∈ recip, 1 ≤ x.extra) →
    ∀ (extra : Nat),
    ((∃ x ∈ recip, (x.threshold : Int) ≤ t0 + offset ∧ x.extra = extra ∧
        ∀ y ∈ recip, (y.threshold : Int) ≤ t0 + offset → y.threshold ≤ x.threshold) ∨
      (extra = 0 ∧ ∀ y ∈ recip, t0 + offset < y.threshold)) →
    let t2 := t0 + offset + extra
    let t := (nearest 0 191 t2).toNat
    let r := computeStep t0 recip base offset
    r.logT = t ∧
    r.planned =
      (([256, 271, 287, 304, 323, 342, 362, 384, 406, 431, 456, 483] : List Nat)[t % 12]?).getD 0 * 2 ^ (t / 12) / 32 ∧
    8 ≤ r.planned ∧ r.planned ≤ 494592 ∧
    r.flags = { base with recip := decide (extra ≠ 0), clampLow := decide (t2 < 0), clampHigh := decide (191 < t2) }

/-- R81, R82 (with R70, R72): CTXQ lists the held context and the queue, and CALC works the computation; neither changes
anything. Where the manual leaves a point open, the choice is the model's: log entries 19 and 57 (where the exposure phase
stands). -/
def Obligations.ContextQueries : Prop :=
  ∀ (film : Int) (mode : Option Source) (value filter plan : Int) (s : State), s.canTake = true →
    let listed (c : Context) : List RField :=
      [.dotted [c.ref.order, c.ref.item, c.ref.set, c.ref.step], .num c.ref.offset, numF c.logT, numF c.planned,
       flagsField c.flags, optF numF c.light, .word (sourceWord c.source), numF c.film]
    exec .ctxq s = .next (s.replied .ctxq (ok (
      (match s.shutter.held with
        | some c => .word s.shutter.phase.word :: listed c
        | none => []) ++ s.contexts.flatMap listed))) ∧
    exec (.calc film mode value filter plan) s = .next (s.replied .calc (
      if ¬(1 ≤ film ∧ film ≤ 8) then refuseAt .range 1
      else
        match s.film film.toNat with
        | none => refuseAt .none 1
        | some rec =>
          match mode with
          | none => refuseAt .range 2
          | some m =>
            if ¬(0 ≤ plan ∧ plan ≤ 7) then refuseAt .range 5
            else
              match s.plan plan.toNat with
              | none => refuseAt .none 5
              | some offsets =>
                let l := (nearest 0 65535 value).toNat
                let lit (trim : Int) : Int := (rec.k : Int) - brightness (max 1 l) + nearest (-24) 48 filter + trim
                let t0 : Int := match m with
                  | .copy => lit s.store.copyTrim
                  | .stage => lit s.store.stageTrim
                  | .manual => nearest 0 191 value
                let flags : Flags :=
                  { meterHigh := false, meterLow := decide (m ≠ .manual ∧ l < 16), manual := decide (m = .manual), recip := false,
                    clampLow := false, clampHigh := false }
                ok (.num t0 :: offsets.flatMap fun o =>
                    let r := computeStep t0 rec.recip flags o
                    [.num o, numF r.logT, numF r.planned, flagsField r.flags])
                  (if m = .manual then clampedAt 3 0 191 value
                    else clampedAt 3 0 65535 value ++ clampedAt 4 (-24) 48 filter)))

/-- R83, R85, R86, R87: the opening of an exposure: the contact-open event starts the counter, sets the windows live and the
exposing marker; the open timeout ends it with SHUT_OPEN, the context returned to the head; and the expiry of the planned ticks
closes. Where the manual leaves a point open, the choice is the model's: log entries 2 (an expiry outside its phase), 36
(SHUT_OPEN leaves no measured open time) and 42. -/
def Obligations.ShutterOpensOrTimesOut : Prop :=
  ∀ (s : State), s.live = true →
    let lit : State := { s with lines := { s.lines with scontOpen := true } }
    exec .contactOpen s = .next (
      if s.shutter.contactOpen = true then lit
      else if s.shutter.phase = .opening then
        { lit with
          store := { s.store with marker := s.shutter.held }
          meter := { s.meter with live := true }
          shutter := { s.shutter with contactOpen := true, phase := .opened, ticks := 0, timer := none } }
      else { lit with shutter := { s.shutter with contactOpen := true } }) ∧
    (∀ c, s.shutter.held = some c → s.shutter.phase = .opening →
      let t := ({ s with
        contexts := c :: s.contexts
        shutter := { s.shutter with phase := .idle, held := none, coil := false, timer := none, measured := none } }).lookItem
          c.ref.order c.ref.item
      exec .openTimeout s = .next (if t.cycle.state = .exposing then t.endCancelPending.halt .shutOpen else t)) ∧
    (s.shutter.phase ≠ .opening → exec .openTimeout s = .next s) ∧
    (∀ c, s.shutter.held = some c → s.shutter.phase = .opened →
      exec .plannedTicksExpiry s = .next { s with
        meter := { s.meter with live := false }
        shutter :=
          { s.shutter with
            ticks := max s.shutter.ticks c.planned, phase := .closing (some .normal) false, coil := false,
            timer := some s.store.conf.closeTo } }) ∧
    (s.shutter.phase ≠ .opened → exec .plannedTicksExpiry s = .next s)

/-- R11, R12, R83, R86, R87, R88, R109: the contact-closed event and the close timeout in every phase. Where no closing runs,
and in a closing after an ABRT, which gives no outcome, the contact's level is taken and the phase becomes IDLE. For an
exposure of the gate frame, contact-closed gives NORMAL (early in OPEN, or pending in CLOSING) or LAMP, and the close timeout
SHUT_CLOSE; a NORMAL outcome is followed by the set accounting: a complete set is counted, the next set's steps are PENDING and
its fill is asked, or the item's last set ends it. Where the manual leaves a point open, the choice is the model's: log entry
2. -/
def Obligations.ShutterClosesWithOutcome : Prop :=
  (∀ (s : State), s.live = true →
    let dark : State := { s with lines := { s.lines with scontOpen := false } }
    let idle (contact : Bool) : Shutter :=
      { s.shutter with phase := .idle, held := none, coil := false, timer := none, contactOpen := contact }
    (s.shutter.contactOpen = false → exec .contactClosed s = .next dark) ∧
    (s.shutter.contactOpen = true → s.shutter.phase = .idle ∨ s.shutter.phase = .opening →
      exec .contactClosed s = .next { dark with shutter := { s.shutter with contactOpen := false } }) ∧
    (s.shutter.contactOpen = true → ∀ b, s.shutter.phase = .closing none b →
      exec .contactClosed s = .next { dark with shutter := idle false }) ∧
    (s.shutter.phase = .idle ∨ s.shutter.phase = .opening ∨ s.shutter.phase = .opened → exec .closeTimeout s = .next s) ∧
    (∀ b, s.shutter.phase = .closing none b → exec .closeTimeout s = .next { s with shutter := idle s.shutter.contactOpen })) ∧
  ∀ (c : Context) (f : Frame) (b : Bool) (s : State), s.live = true → s.shutter.contactOpen = true → s.shutter.held = some c →
    s.gateFrame = some f →
    let dark : State := { s with lines := { s.lines with scontOpen := false } }
    let part : Computed := { logT := c.logT, planned := c.planned, light := c.light, flags := c.flags }
    let shut (contact : Bool) : Shutter :=
      { s.shutter with
        phase := .idle, held := none, coil := false, timer := none, measured := some s.shutter.ticks, contactOpen := contact }
    let single := (s.item c.ref.order c.ref.item).any fun it => it.captured.any fun l => l.length == 1
    let exposed : Frame :=
      { f with
        state := .exposed, ref := some c.ref, computed := some part, measured := some s.shutter.ticks,
        selection := some (if single then .kept else .undecided) }
    let spoiled (k : FrameCause) : Frame :=
      { f with
        state := .spoiled, cause := some k, ref := some c.ref, computed := some part, measured := some s.shutter.ticks }
    let item (g : Item → Item) (t : State) : State := t.updateItem c.ref.order c.ref.item g
    let kept (t : State) : State := if single then item (fun it => { it with kept := it.kept + 1 }) t else t
    let spoil (k : FrameCause) (t : State) : State :=
      item (fun it => { it with spoiled := it.spoiled + 1 }) (t.setFrame (spoiled k))
    let after (contact : Bool) (t : State) : State :=
      ({ t with store := { t.store with marker := none }, shutter := shut contact }).lookItem c.ref.order c.ref.item
    let normal := (after false ((kept (dark.setFrame exposed)).setStep c.ref .done))
    let lamp := (after false (((spoil .lamp dark).setStep c.ref .pending).discardQueue))
    let late := after true (if b then (spoil .shutClose s).setStep c.ref .pending
      else { spoil .shutClose s with contexts := c :: s.contexts })
    let fault (h : HaltCause) (t : State) : State :=
      if t.cycle.state = .exposing then t.endCancelPending.halt h else t
    let counted (t : State) : State := item (fun it => { it with setsDone := it.setsDone + 1 }) t
    let account (ask : Bool) (t : State) : State := match t.item c.ref.order c.ref.item with
      | none => t
      | some it =>
        if ¬(it.state = .active ∧ it.steps.any fun l => l.all fun st => st == .done) then t
        else if it.cancelPending then counted t
        else if it.setsDone + 1 < it.copies then
          let u := item (fun i =>
            { i with
              setsDone := i.setsDone + 1, currentSet := i.currentSet.map (· + 1)
              steps := i.steps.map fun l => l.map fun _ => .pending }) t
          if ask then u.fill (if it.mode.source = .manual then .manual else .stored) else u
        else (counted t).endActive c.ref.order it false
    let reported (t : State) : State :=
      if s.cycle.state = .exposing then (account true t).enterWinding else account false t
    (s.shutter.phase = .opened →
      exec .contactClosed s = .next (reported { normal with meter := { normal.meter with live := false } })) ∧
    (s.shutter.phase = .closing (some .normal) b → exec .contactClosed s = .next (reported normal)) ∧
    (s.shutter.phase = .closing (some .lamp) b → exec .contactClosed s = .next (fault .lamp lamp)) ∧
    (∀ p, s.shutter.phase = .closing (some p) b → exec .closeTimeout s = .next (fault .shutClose late))

/-! ## Orders and the stand cycle (chapter 5) -/

/-- R91, R92, R93, R94: the two forms of ORDR and of ITEM: the refusals in their order, the order that is added to the BUILDING
orders, the PENDING item that is added to its order, and the queries; and what an order number and an item number find, which
item is ACTIVE (R97), and what the rewriting of an order or an item leaves. Where the manual leaves a point open, the choice is
the model's: log entries 19 and 77 (Y or N for the cancel pending and the METER_HIGH mark). -/
def Obligations.OrderAndItemRequests : Prop :=
  (∀ (order account : Int) (cls : Option OrderClass) (asked : Option Int) (s : State), s.canTake = true →
     exec (.ordrCreate order account cls) s = .next (
       if ¬(1 ≤ order ∧ order ≤ 65535) then s.replied .ordr (refuseAt .range 1)
       else if ¬(1 ≤ account ∧ account ≤ 9999) then s.replied .ordr (refuseAt .range 2)
       else
         match cls with
         | none => s.replied .ordr (refuseAt .range 3)
         | some c =>
           if s.order order.toNat ≠ none then s.replied .ordr (refuseAt .dup 1)
           else if s.account account.toNat = none then s.replied .ordr (refuseAt .none 2)
           else if 32 ≤ s.store.book.orders.length ∨ 256 ≤ s.store.book.itemCount then s.replied .ordr (refuse .full)
           else
             let o : Order :=
               { number := order.toNat, account := account.toNat, cls := c, state := .building, minimum := none, running := 0,
                 items := [] }
             let t : State := { s with
               store := { s.store with book := { s.store.book with building := s.store.book.building ++ [o] } } }
             t.replied .ordr (ok [.num order, .num account, .word (classWord c),
               .word ['B', 'U', 'I', 'L', 'D', 'I', 'N', 'G']])) ∧
     exec (.ordrQuery asked) s = .next (s.replied .ordr (
       match asked with
       | none => ok ((s.store.book.posted ++ s.store.book.building).flatMap fun o => [numF o.number, .word o.state.word])
       | some n =>
         if ¬(1 ≤ n ∧ n ≤ 65535) then refuseAt .range 1
         else
           match s.order n.toNat with
           | none => refuseAt .none 1
           | some o =>
             ok ([numF o.number, numF o.account, .word (classWord o.cls), .word o.state.word,
                 match o.state with
                 | .held c => .word c.word
                 | _ => .empty,
                 optF numF ((s.store.book.posted.findIdx? fun q => q.number == o.number).map (· + 1)), optF numF o.minimum,
                 numF o.running, numF o.items.length] ++
               o.items.flatMap fun i => [numF i.number, .word i.state.word])))) ∧
  (∀ (order : Int) (catalogue title credit : Text) (mode : Option Source) (value plan copies : Int)
     (lamp : Option (Option Light)) (item : Int) (s : State), s.canTake = true →
     exec (.itemAdd order catalogue title credit mode value plan copies lamp) s = .next (
       if ¬(1 ≤ order ∧ order ≤ 65535) then s.replied .item (refuseAt .range 1)
       else
         match s.order order.toNat with
         | none => s.replied .item (refuseAt .none 1)
         | some o =>
           if o.state ≠ .building then s.replied .item (refuseAt .state 1)
           else if 20 < catalogue.length then s.replied .item (refuseAt .range 2)
           else if 60 < title.length then s.replied .item (refuseAt .range 3)
           else if 40 < credit.length then s.replied .item (refuseAt .range 4)
           else
             match mode with
             | none => s.replied .item (refuseAt .range 5)
             | some m =>
               if ¬(0 ≤ plan ∧ plan ≤ 7) then s.replied .item (refuseAt .range 7)
               else if s.plan plan.toNat = none then s.replied .item (refuseAt .none 7)
               else if ¬(1 ≤ copies ∧ copies ≤ 4) then s.replied .item (refuseAt .range 8)
               else if m = .manual ∧ lamp = some none then s.replied .item (refuseAt .range 9)
               else if 24 ≤ o.items.length ∨ 256 ≤ s.store.book.itemCount then s.replied .item (refuse .full)
               else
                 let lo : Int := if m = .manual then 0 else -24
                 let hi : Int := if m = .manual then 191 else 48
                 let v := nearest lo hi value
                 let stored : ItemMode := match m with
                   | .copy => .copy v
                   | .stage => .stage v
                   | .manual => .manual v.toNat (match lamp with
                     | some (some l) => l
                     | _ => .copy)
                 let it : Item :=
                   { number := o.items.length + 1, catalogue := catalogue, title := title, credit := credit, mode := stored,
                     plan := plan.toNat, copies := copies.toNat, state := .pending, cancelPending := false, captured := none,
                     rates := none, estimate := 0, stored := none, currentSet := none, steps := none, setsDone := 0, kept := 0,
                     rejected := 0, spoiled := 0, labels := 0 }
                 (s.updateOrder o.number fun q => { q with items := q.items ++ [it] }).replied .item
                   (ok [.dotted [o.number, it.number], .word (sourceWord m), .num v, .num plan, .num copies]
                     (clampedAt 6 lo hi value))) ∧
     exec (.itemQuery order item) s = .next (s.replied .item (
       if ¬(1 ≤ order ∧ order ≤ 65535) then refuseAt .range 1
       else
         match s.order order.toNat with
         | none => refuseAt .none 1
         | some o =>
           if ¬(1 ≤ item ∧ item ≤ 24) then refuseAt .range 2
           else
             match o.items.find? fun i => i.number == item.toNat with
             | none => refuseAt .none 2
             | some it =>
               let rate (g : Rates → Nat) : RField := match it.rates with
                 | some x => numF (g x)
                 | none => .empty
               let mode : List RField := match it.mode with
                 | .copy f => [.word ['C', 'O', 'P', 'Y'], .num f, .empty, .empty]
                 | .stage f => [.word ['S', 'T', 'A', 'G', 'E'], .num f, .empty, .empty]
                 | .manual l lamp => [.word ['M', 'A', 'N', 'U', 'A', 'L'], .empty, numF l, .word (lightWord lamp)]
               let captured : List RField := match it.captured with
                 | some l => l.map RField.num
                 | none => [.empty]
               let stored : List RField := match it.stored with
                 | some x => [numF x.light, .word (if x.high then ['Y'] else ['N'])]
                 | none => [.empty, .empty]
               ok ([.text it.catalogue, .text it.title, .text it.credit] ++ mode ++
                 [numF it.plan, numF it.copies, .word it.state.word, .word (if it.cancelPending then ['Y'] else ['N'])] ++
                 captured ++
                 [rate Rates.frame, rate Rates.reject, rate Rates.spoil, rate Rates.label, rate Rates.rush, numF it.estimate] ++
                 stored ++
                 [optF numF it.currentSet, optF (fun l => .word (l.map StepStatus.letter)) it.steps, numF it.setsDone,
                  numF it.kept, numF it.rejected, numF it.spoiled, numF it.labels])))) ∧
  ∀ (o i : Nat) (f : Order → Order) (g : Item → Item) (s : State),
    let book := s.store.book
    let within (h : Order → Order) : State := { s with
      store :=
        { s.store with
          book :=
            { posted := book.posted.map fun q => if q.number = o then h q else q
              building := book.building.map fun q => if q.number = o then h q else q } } }
    s.order o = ((book.posted ++ book.building).find? fun q => q.number == o) ∧
    s.item o i = ((s.order o).bind fun q => q.items.find? fun it => it.number == i) ∧
    s.active = (book.posted.findSome? fun q => (q.items.find? fun it => it.state == .active).map fun it => (q, it)) ∧
    s.updateOrder o f = within f ∧
    s.updateItem o i g = within fun q => { q with items := q.items.map fun it => if it.number = i then g it else it }

/-- R95, R98: POST, HOLD and FREE in every form: their refusals, the order's new state and place, and the selection that a POST
or a FREE starts while the cycle is WAITING. Where the manual leaves a point open, the choice is the model's: log entries 8
(the reply before the PLACE notice), 15 and 47. -/
def Obligations.PostHoldAndFree : Prop :=
  ∀ (order : Int) (s : State), s.canTake = true →
    let set (o : Order) (st : OrderState) (t : State) : State := t.updateOrder o.number fun q => { q with state := st }
    let select (t : State) : State := if s.cycle.isWaiting then t.select else t
    exec (.post order) s = .next (
      if ¬(1 ≤ order ∧ order ≤ 65535) then s.replied .post (refuseAt .range 1)
      else
        match s.order order.toNat with
        | none => s.replied .post (refuse .none)
        | some o =>
          if o.state ≠ .building ∨ o.items = [] then s.replied .post (refuseAt .state 1)
          else
            let t : State := { s.reserveTx with
              store :=
                { s.store with
                  book :=
                    { posted := s.store.book.posted ++ [{ o with state := .waiting }]
                      building := s.store.book.building.filter fun q => q.number != o.number } } }
            (select t).replied .post (ok [numF o.number, numF (s.store.book.posted.length + 1)])) ∧
    (0 ≤ order →
      exec (.hold order) s = .next (
        match s.order order.toNat with
        | none => s.replied .hold (refuse .none)
        | some o =>
          match o.state with
          | .building => s.replied .hold (refuse .state)
          | .done => s.replied .hold (refuse .state)
          | .active => s.replied .hold (refuse .busy)
          | _ => (set o (.held .host) s).replied .hold (ok [])) ∧
      exec (.free order) s = .next (
        match s.order order.toNat with
        | none => s.replied .free (refuse .none)
        | some o =>
          match o.state with
          | .held _ => (select (set o .waiting s.reserveTx)).replied .free (ok [])
          | _ => s.replied .free (refuse .state))) ∧
    (order < 0 →
      exec (.hold order) s = .next (s.replied .hold (refuse .none)) ∧
      exec (.free order) s = .next (s.replied .free (refuse .none)))

/-- R79, R96, R97, R99, R102, R157, R174: the two forms of CNCL: the refusals in their order; a BUILDING order is removed,
every PENDING item is cancelled at once (CANCELLED, with its order's state by R96, a DONE notice with its cancelled mark, and
the Charge Unit's look), and the ACTIVE item is treated by the state of the cycle. And the end of an ACTIVE item: both lamps go
off, the context queue is discarded with its steps PENDING, the item and its order take their states, a DONE notice is raised,
and the Charge Unit looks at the item. Where the manual leaves a point open, the choice is the model's: log entries 8 (the
reply before the notices), 20, 33, 64 (the halt roll goes with HALTED) and 70 (a second CNCL of the order). -/
def Obligations.CancelEndsItems : Prop :=
  (∀ (order item : Int) (s : State), s.canTake = true →
     let active (o : Nat) (it : Item) (t : State) : State :=
       match s.cycle.state with
       | .exposing => t.updateItem o it.number fun i => { i with cancelPending := true }
       | .winding => t.updateItem o it.number fun i => { i with cancelPending := true }
       | .metering => (({ t with meter := { t.meter with metering := none } } : State).endActive o it true).select
       | .place => (t.endActive o it true).select
       | .warmup => (t.endActive o it true).select
       | .stopped => t.endActive o it true
       | .waiting _ => t.endActive o it true
       | .halted _ _ =>
         let u := t.endActive o it true
         { u with
           cycle :=
             { u.cycle with
               state := .stopped, copyLamp := { on := false, warm := false }, stageLamp := { on := false, warm := false },
               warmTimer := none, pause := false } }
     let waits : Bool := s.cycle.state = .exposing ∨ s.cycle.state = .winding
     let reply (o n : Nat) (w : Bool) : Answer :=
       ok ([numF o, numF n] ++ if w then [.word ['P', 'E', 'N', 'D', 'I', 'N', 'G']] else [])
     exec (.cnclOrder order) s = .next (
       if ¬(1 ≤ order ∧ order ≤ 65535) then s.replied .cncl (refuse .range)
       else
         match s.order order.toNat with
         | none => s.replied .cncl (refuse .none)
         | some o =>
           if o.state = .building then
             let t : State := { s with
               store :=
                 { s.store with
                   book :=
                     { posted := s.store.book.posted.filter fun q => q.number != o.number
                       building := s.store.book.building.filter fun q => q.number != o.number } } }
             t.replied .cncl (reply o.number 0 false)
           else if ¬(o.items.any fun i => i.state == .pending || i.state == .active) then s.replied .cncl (refuse .state)
           else
             let pending := o.items.filter fun i => i.state == .pending
             let t := pending.foldl (fun u i => u.cancelPendingItem o.number i.number) s.reserveTx
             match o.items.find? fun i => i.state == .active with
             | none => t.replied .cncl (reply o.number pending.length false)
             | some it =>
               (active o.number it t).replied .cncl (reply o.number (if waits then pending.length else pending.length + 1) waits)) ∧
     exec (.cnclItem order item) s = .next (
       if ¬(1 ≤ order ∧ order ≤ 65535 ∧ 1 ≤ item ∧ item ≤ 24) then s.replied .cncl (refuse .range)
       else
         match s.order order.toNat with
         | none => s.replied .cncl (refuse .none)
         | some o =>
           match o.items.find? fun i => i.number == item.toNat with
           | none => s.replied .cncl (refuse .none)
           | some it =>
             if o.state = .building then s.replied .cncl (refuse .state)
             else if it.state = .pending then
               (s.reserveTx.cancelPendingItem o.number it.number).replied .cncl (reply o.number 1 false)
             else if it.state = .active then
               (active o.number it s.reserveTx).replied .cncl (reply o.number (if waits then 0 else 1) waits)
             else s.replied .cncl (refuse .state))) ∧
  (∀ (o : Nat) (it : Item) (cancelled : Bool) (s : State),
     let off : LampState := { on := false, warm := false }
     let dark : State := { s with cycle := { s.cycle with copyLamp := off, stageLamp := off }, contexts := [] }
     let discarded : State := s.contexts.foldl (fun t c => t.updateItem c.ref.order c.ref.item fun i =>
       if i.currentSet = some c.ref.set then
         { i with steps := i.steps.map fun l : List StepStatus => l.set (c.ref.step - 1) .pending }
       else i) dark
     let ended (q : Order) : Order :=
       let items := q.items.map fun i => if i.number = it.number then
         { i with state := if cancelled then .cancelled else .done } else i
       let state : OrderState :=
         if items.any fun i => i.state == .active then q.state
         else if items.any fun i => i.state == .pending then (if q.state = .active then .waiting else q.state)
         else if q.state = .building then .building
         else .done
       { q with items := items, state := state }
     s.endActive o it cancelled =
       ((discarded.updateOrder o ended).raise (.done o it.number cancelled)).lookItem o it.number) ∧
  (∀ (o i : Nat) (s : State),
     let ended (q : Order) : Order :=
       let items := q.items.map fun it => if it.number = i then { it with state := .cancelled } else it
       let state : OrderState :=
         if items.any fun it => it.state == .active then q.state
         else if items.any fun it => it.state == .pending then (if q.state = .active then .waiting else q.state)
         else if q.state = .building then .building
         else .done
       { q with items := items, state := state }
     let within (l : List Order) : List Order := l.map fun q => if q.number = o then ended q else q
     let t : State := { s with
       store :=
         { s.store with
           book := { posted := within s.store.book.posted, building := within s.store.book.building } } }
     s.cancelPendingItem o i = (t.raise (.done o i true)).lookItem o i)

/-- R100, R103, R104, R105, R156: RUN in every form; the selection it makes by the roll, the ACTIVE item and the scan, which
enters PLACE with its notice or WAITING with its cause, both with the lamps off; and the scan of an order: its first PENDING
item is refused for a closed account or an allowance that would be passed, which holds the order and goes on, or is admitted,
which captures what the item keeps. Where the manual leaves a point open, the choice is the model's: log entry 8. -/
def Obligations.RunSelectsNextItem : Prop :=
  ∀ (s : State),
    let ready := s.openRoll.any fun r => r.state == .loaded && s.gateFrame.isSome
    let waiting := s.store.book.posted.filter fun o => o.state == .waiting
    let scan := ((waiting.filter fun o => o.cls == .rush) ++ waiting.filter fun o => o.cls == .normal).map Order.number
    (s.canTake = true →
      exec .run s = .next (
        if s.cycle.state ≠ .stopped ∨ s.shutter.phase ≠ .idle then s.replied .run (refuse .busy)
        else s.reserveTx.select.replied .run (ok [.word s.reserveTx.select.cycle.state.word]))) ∧
    let enter (c : CycleState) (t : State) : State :=
      { t with
        cycle :=
          { t.cycle with
            state := c, copyLamp := { on := false, warm := false }, stageLamp := { on := false, warm := false },
            warmTimer := none } }
    let place (o i : Nat) (t : State) : State := (enter .place t).raise (.place o i)
    s.select = (
      if ready = false then enter (.waiting .noRoll) s
      else
        match s.active with
        | some (o, it) => place o.number it.number s
        | none =>
          match scanOrders scan s with
          | (t, some (o, i)) => place o i t
          | (t, none) => enter (.waiting .noItem) t) ∧
    scanOrders [] s = (s, none) ∧
    ∀ (n : Nat) (rest : List Nat) (o : Order) (it : Item) (a : Account) (c : RateClass) (plan : List Int),
      s.order n = some o → o.number = n → (o.items.find? fun i => i.state == .pending) = some it →
      s.account o.account = some a → s.store.rates[a.cls - 1]? = some c → s.plan it.plan = some plan →
      let x := it.copies * (c.frame + (plan.length - 1) * c.reject + c.label)
      let estimate := if o.cls = .rush then x + (x * c.rush + 500) / 1000 else x
      let held (cause : HoldCause) : State := s.updateOrder n fun q => { q with state := .held cause }
      let above := a.allowance.any fun limit => limit < a.charged + a.committed + estimate
      scanOrders (n :: rest) s = (
        if a.state = .closed then scanOrders rest (held .closed)
        else if above then scanOrders rest (held .allowance)
        else
          ((s.updateAccount a.number fun b => { b with committed := b.committed + estimate }).updateOrder n fun q =>
            { q with
              state := .active
              minimum := some (q.minimum.getD c.minimum)
              items := q.items.map fun i => if i.number = it.number then
                { i with
                  state := .active, captured := some plan
                  rates := some { frame := c.frame, reject := c.reject, spoil := c.spoil, label := c.label, rush := c.rush }
                  estimate := estimate, currentSet := some 1, steps := some (plan.map fun _ => .pending) } else i },
            some (n, it.number)))

/-- R54, R84, R105, R106, R107, R109: GO and the footswitch take PLACE to WARMUP with the ACTIVE item's lamp on, the other off
and the warm-up timer started, and are refused or not acted on in any other state, with an ACTIVE item or without one; the
expiry of a running warm-up makes the lamp warm and goes forward, and does nothing else with no ACTIVE item; and where going
forward leads: with a COPY or STAGE item METERING or WARMUP with an empty queue,
WINDING without a POSITIONED gate frame, and EXPOSING or WARMUP with one; a MANUAL item's empty queue is filled first, and the
choice is made again; with a POSITIONED gate frame, as at the end of a winding, the choice is the same. Where the manual leaves
a point open, the choice is the model's: log entries 2 (an expiry with no warm-up running or no ACTIVE item), 15, 36 (an
exposure begun with the contact open) and 55 (the samples count of a metering that waits). -/
def Obligations.WarmupAndGoingForward : Prop :=
  (∀ (s : State), s.cycle.state ≠ .place →
     (s.canTake = true → exec .go s = .next (s.replied .go (refuse .busy))) ∧
     (s.live = true → exec .footswitchPress s = .next s)) ∧
  (∀ (s : State), s.live = true → s.active = none →
     exec .warmupExpiry s = .next { s with cycle := { s.cycle with warmTimer := none } }) ∧
  (∀ (o : Order) (it : Item) (s : State), s.active = some (o, it) →
     let lit (x : LampState) : LampState := if x.on then x else { on := true, warm := false }
     let off : LampState := { on := false, warm := false }
     let warm (t : State) : State :=
       { t with
         cycle :=
           { t.cycle with
             state := .warmup
             copyLamp := if it.mode.lamp = .copy then lit t.cycle.copyLamp else off
             stageLamp := if it.mode.lamp = .stage then lit t.cycle.stageLamp else off
             warmTimer := some t.store.conf.warmup } }
     (s.canTake = true →
       exec .go s = .next (if s.cycle.state = .place then (warm s).replied .go (ok []) else s.replied .go (refuse .busy))) ∧
     (s.live = true →
       exec .footswitchPress s = .next (if s.cycle.state = .place then warm s else s) ∧
       exec .warmupExpiry s = .next (
         if s.cycle.warmTimer = none then s
         else
           let t : State := { s with
             cycle :=
               { s.cycle with
                 copyLamp := if it.mode.lamp = .copy then { s.cycle.copyLamp with warm := true } else s.cycle.copyLamp
                 stageLamp := if it.mode.lamp = .stage then { s.cycle.stageLamp with warm := true } else s.cycle.stageLamp
                 warmTimer := none } }
           t.forward))) ∧
  (∀ (o : Order) (it : Item) (s : State), s.active = some (o, it) → it.mode.source ≠ .manual →
     let warm := (if it.mode.lamp = .copy then s.cycle.copyLamp else s.cycle.stageLamp).warm
     let enter (c : CycleState) : State := { s with cycle := { s.cycle with state := c } }
     let channel : Fin 4 := if it.mode.source = .copy then 0 else 1
     (s.contexts = [] → warm = false → s.forward = s.enterWarmup it.mode.lamp) ∧
     (s.contexts = [] → warm = true → s.meter.metering = none →
       s.forward = { enter .metering with
         meter :=
           { s.meter with
             metering := some
               { channel := channel, samples := s.store.conf.samples, begun := s.meter.calibration.isNone, sum := 0,
                 taken := 0 } } }) ∧
     (s.contexts ≠ [] → s.gateFrame = none → s.forward = (enter .winding).startAdvance .cycle) ∧
     (s.contexts ≠ [] → s.gateFrame ≠ none → warm = false → s.forward = s.enterWarmup it.mode.lamp) ∧
     (∀ c rest, s.contexts = c :: rest → s.gateFrame ≠ none → warm = true → s.shutter.phase = .idle →
       (s.shutter.contactOpen = false →
         s.forward = { enter .exposing with
           contexts := rest
           shutter :=
             { s.shutter with phase := .opening, held := some c, coil := true, timer := some s.store.conf.openTo } }) ∧
       (s.shutter.contactOpen = true →
         s.forward = ({ enter .exposing with contexts := rest, shutter := { s.shutter with held := some c } } : State).outcomeShutClose
           c none false)) ∧
     (s.contexts = [] ∨ s.gateFrame ≠ none → s.forwardAtGate = s.forward)) ∧
  (∀ (o : Order) (it : Item) (log : Nat) (lamp : Light) (s : State), s.active = some (o, it) → it.mode = .manual log lamp →
     let warm := (if lamp = .copy then s.cycle.copyLamp else s.cycle.stageLamp).warm
     let t := if s.contexts = [] then s.fill .manual else s
     let enter (c : CycleState) : State := { t with cycle := { t.cycle with state := c } }
     (t.contexts = [] → s.forwardAtGate = t) ∧
     (t.contexts ≠ [] → t.gateFrame = none → s.forward = (enter .winding).startAdvance .cycle) ∧
     (t.contexts ≠ [] → t.gateFrame ≠ none →
       s.forwardAtGate = s.forward ∧
       (warm = false → s.forward = t.enterWarmup lamp) ∧
       (∀ c rest, t.contexts = c :: rest → warm = true → t.shutter.phase = .idle → t.shutter.contactOpen = false →
         s.forward = { enter .exposing with
           contexts := rest
           shutter :=
             { t.shutter with phase := .opening, held := some c, coil := true, timer := some t.store.conf.openTo } })))

/-- R101, R102, R112: LITE in both forms, CYCL, and PAUS in every state of the cycle. Where the manual leaves a point open, the
choice is the model's: log entries 15, 19, 21, 76 (a PAUS in WAITING, PLACE or WARMUP while a pause is pending) and 77 (Y or N
for a warm flag and for the cancel pending). -/
def Obligations.LampsQueriesAndPause : Prop :=
  ∀ (lamp : Option Light) (state : Option Bool) (s : State), s.canTake = true →
    let lampFields (x : LampState) : List RField :=
      [.word (if x.on then ['O', 'N'] else ['O', 'F', 'F']), .word (if x.warm then ['Y'] else ['N'])]
    let switched (x : LampState) (on : Bool) : LampState :=
      if on then (if x.on then x else { on := true, warm := false }) else { on := false, warm := false }
    let stopped : State :=
      { s with
        cycle :=
          { s.cycle with
            state := .stopped, copyLamp := { on := false, warm := false }, stageLamp := { on := false, warm := false },
            warmTimer := none, pause := false } }
    exec (.liteSet lamp state) s = .next (
      match lamp, state with
      | some l, some on =>
        if s.cycle.state = .warmup ∨ s.cycle.state = .metering ∨ s.cycle.state = .exposing ∨ s.cycle.state = .winding then
          s.replied .lite (refuse .busy)
        else
          let t : State := { s with
            cycle :=
              { s.cycle with
                copyLamp := if l = .copy then switched s.cycle.copyLamp on else s.cycle.copyLamp
                stageLamp := if l = .stage then switched s.cycle.stageLamp on else s.cycle.stageLamp } }
          t.replied .lite (ok [])
      | _, _ => s.replied .lite (refuse .range)) ∧
    exec .liteQuery s = .next (s.replied .lite (ok (lampFields s.cycle.copyLamp ++ lampFields s.cycle.stageLamp))) ∧
    exec .cycl s = .next (s.replied .cycl (ok (
      [.word s.cycle.state.word] ++
      (match s.cycle.state with
        | .waiting c => [.word c.word, .empty]
        | .halted c r => [.word c.word, optF numF r]
        | _ => [.empty, .empty]) ++
      [if s.cycle.pause then .word ['P'] else .empty] ++
      (match s.active with
        | some (o, it) =>
          [.dotted [o.number, it.number], .word (if it.cancelPending then ['Y'] else ['N']), optF numF it.currentSet,
            numF it.setsDone, optF (fun l => .word (l.map StepStatus.letter)) it.steps]
        | none => [.empty, .empty, .empty, .empty, .empty]) ++
      lampFields s.cycle.copyLamp ++ lampFields s.cycle.stageLamp))) ∧
    exec .paus s = .next (
      match s.cycle.state with
      | .stopped => s.replied .paus (ok [])
      | .waiting _ => stopped.replied .paus (ok [])
      | .place => stopped.replied .paus (ok [])
      | .warmup => stopped.replied .paus (ok [])
      | .halted _ _ => s.replied .paus (refuse .busy)
      | _ => ({ s with cycle := { s.cycle with pause := true } } : State).replied .paus (ok []))

/-- R44, R56, R79, R88, R113: ABRT in every state: an advance that is stepping ends at its running interval, and one that is
settling ends at once; a metering is withdrawn, an exposure is treated by its phase, the context queue is discarded, an item
whose cancellation waited ends, and the cycle is STOPPED with both lamps off. Where the manual leaves a point open, the choice
is the model's: log entries 8 (the reply before the DONE notice), 10, 15, 36 (no measured open time before the contact reports
open, which an ABRT in OPENING keeps), 56 (the lamps in STOPPED with nothing in flight) and 64 (the halt roll goes with HALTED). -/
def Obligations.AbortStopsEverything : Prop :=
  ∀ (s : State), s.canTake = true →
    let stopped : Transport := match s.transport.advance with
      | some { phase := .settling _, .. } => { s.transport with advance := none, slow := none, stop := none, ired := true }
      | some a => { s.transport with advance := some { a with phase := .stepping (some .abort) } }
      | none => s.transport
    let t : State := { s.reserveTx with transport := stopped, meter := { s.meter with metering := none } }
    let idle : Shutter := { s.shutter with phase := .idle, held := none, coil := false, timer := none }
    let u : State := match s.shutter.phase, s.shutter.held with
      | .idle, _ => t
      | .opening, some c => { t.setStep c.ref .pending with shutter := idle }
      | .opening, none => { t with shutter := idle }
      | .opened, held =>
        let v := match held, s.gateFrame with
          | some c, some f =>
            (((t.setFrame
              { f with
                state := .spoiled, cause := some .abort, ref := some c.ref
                computed := some { logT := c.logT, planned := c.planned, light := c.light, flags := c.flags }
                measured := some s.shutter.ticks }).updateItem c.ref.order c.ref.item fun it =>
                  { it with spoiled := it.spoiled + 1 })).setStep c.ref .pending
          | some c, none => t.setStep c.ref .pending
          | none, _ => t
        { v with
          store := { v.store with marker := none }
          meter := { v.meter with live := false }
          shutter :=
            { s.shutter with
              phase := .closing none false, held := none, coil := false, timer := some s.store.conf.closeTo
              measured := some s.shutter.ticks } }
      | .closing (some p) _, _ => { t with shutter := { s.shutter with phase := .closing (some p) true } }
      | .closing none _, _ => t
    let w := s.contexts.foldl (fun x c => x.setStep c.ref .pending) { u with contexts := [] }
    let x := w.endCancelPending
    exec .abrt s = .next (({ x with
      cycle :=
        { x.cycle with
          state := .stopped, copyLamp := { on := false, warm := false }, stageLamp := { on := false, warm := false },
          warmTimer := none, pause := false } } : State).replied .abrt (ok []))

/-- R115: RSUM in every form: BUSY outside HALTED, the condition of each halt cause with its refusal, and the state that the
cycle goes on to, with an ACTIVE item and with none. Where the manual leaves a point open, the choice is the model's: log
entries 8 (the reply before the notices), 15 and 39. -/
def Obligations.ResumeLeavesHalt : Prop :=
  ∀ (s : State), s.canTake = true →
    let loaded := s.openRoll.any fun r => r.state == .loaded
    let ready := loaded && s.gateFrame.isSome
    let next (t : State) : State := match s.active with
      | some (o, it) => if s.contexts = [] then t.enterPlace o.number it.number else t.enterWarmup it.mode.lamp
      | none => t.select
    let warm (t : State) : State := match s.active with
      | some (_, it) => t.enterWarmup it.mode.lamp
      | none => t.select
    let wind (t : State) : State := ({ t with cycle := { t.cycle with state := .winding } } : State).startAdvance .cycle
    exec .rsum s = .next (
      match s.cycle.state with
      | .halted .rollEnd _ =>
        if ready then (next s.reserveTx).replied .rsum (ok []) else s.replied .rsum (refuse .state)
      | .halted .tableFull _ =>
        if 1024 ≤ s.store.frames.length then s.replied .rsum (refuse .full)
        else if loaded = false then s.replied .rsum (refuse .state)
        else if s.gateFrame = none then (wind s.reserveTx).replied .rsum (ok [])
        else (next s.reserveTx).replied .rsum (ok [])
      | .halted .lamp _ => if loaded then (warm s.reserveTx).replied .rsum (ok []) else s.replied .rsum (refuse .state)
      | .halted .shutOpen _ => if loaded then (warm s.reserveTx).replied .rsum (ok []) else s.replied .rsum (refuse .state)
      | .halted .shutClose _ => if loaded then (warm s.reserveTx).replied .rsum (ok []) else s.replied .rsum (refuse .state)
      | .halted .jam r =>
        if ready ∧ s.openRoll.map Roll.number ≠ r then (next s.reserveTx).replied .rsum (ok [])
        else s.replied .rsum (refuse .state)
      | .halted .slip r =>
        if ready ∧ s.openRoll.map Roll.number ≠ r then (next s.reserveTx).replied .rsum (ok [])
        else s.replied .rsum (refuse .state)
      | _ => s.replied .rsum (refuse .busy))

/-! ## Composing mount labels (chapter 6) -/

/-- R128, R129: what a glyph field of GLYF may be and the rows it loads; and the two forms of GLYF: the refusals in their
order, the glyphs that replace those of consecutive codes, and the query. -/
def Obligations.GlyphRequests : Prop :=
  (∀ (t : Text), (glyphOf t).isSome = true ↔ t.length ≤ 24 ∧ t.length % 2 = 0 ∧ ∀ c ∈ t, (hexDigit c).isSome = true) ∧
  (∀ (t : Text) (g : Vector Byte 12), glyphOf t = some g → ∀ q : Fin 12,
    (2 * q.val + 1 < t.length → ∃ a b x y, t[2 * q.val]? = some a ∧ t[2 * q.val + 1]? = some b ∧ hexDigit a = some x ∧
      hexDigit b = some y ∧ g[q] = BitVec.ofNat 8 (16 * x + y)) ∧
    (t.length ≤ 2 * q.val + 1 → g[q] = 0)) ∧
  ∀ (code : Int) (glyphs : List Text) (s : State), s.canTake = true →
    exec (.glyfLoad code glyphs) s = .next (
      if glyphs.length = 0 ∨ 16 < glyphs.length then s.replied .glyf (refuse .form)
      else if ¬(32 ≤ code ∧ code ≤ 126) then s.replied .glyf (refuseAt .range 1)
      else if 126 < code + glyphs.length - 1 then s.replied .glyf (refuseAt .range 1)
      else
        match glyphs.findIdx? fun t => (glyphOf t).isNone with
        | some i => s.replied .glyf (refuseAt .form (i + 2))
        | none =>
          let table : GlyphTable := Vector.ofFn fun k : Fin 95 =>
            match (if code.toNat ≤ k.val + 32 then glyphs[k.val + 32 - code.toNat]? else none).bind glyphOf with
            | some g => g
            | none => s.store.glyphs[k]
          ({ s with store := { s.store with glyphs := table } } : State).replied .glyf (ok [.num code, numF glyphs.length])) ∧
    exec (.glyfQuery code) s = .next (s.replied .glyf (
      if ¬(32 ≤ code ∧ code ≤ 126) then refuseAt .range 1
      else ok [.num code, .hex (((s.store.glyphs[code.toNat - 32]?).map Vector.toList).getD [])]))

/-- R130, R131: the three forms of EMBL: the clamped window with its row length and capacity, which a wrong order of the
coordinates refuses, the clearing of the emblem raster, and the query. Where the manual leaves a point open, the choice is the
model's: log entries 11 and 15. -/
def Obligations.EmblemRequests : Prop :=
  ∀ (x0 x1 y0 y1 : Int) (s : State), s.canTake = true →
    let figures (a b c d : Nat) : List RField :=
      [numF a, numF b, numF c, numF d, numF ((b - a + 8) / 8), numF ((b - a + 8) / 8 * (d - c + 1))]
    exec (.emblWindow x0 x1 y0 y1) s = .next (
      let a := (nearest 0 63 x0).toNat
      let b := (nearest 0 63 x1).toNat
      let c := (nearest 0 55 y0).toNat
      let d := (nearest 0 55 y1).toNat
      if b < a then s.replied .embl (refuseAt .range 1)
      else if d < c then s.replied .embl (refuseAt .range 3)
      else
        ({ s with composer := { s.composer with x0 := a, x1 := b, y0 := c, y1 := d } } : State).replied .embl
          (ok (figures a b c d) (clampedAt 1 0 63 x0 ++ clampedAt 2 0 63 x1 ++ clampedAt 3 0 55 y0 ++ clampedAt 4 0 55 y1))) ∧
    exec .emblClear s = .next
      (({ s with store := { s.store with emblem := Vector.replicate 56 0 } } : State).replied .embl (ok [])) ∧
    exec .emblQuery s = .next (s.replied .embl (ok (figures s.composer.x0 s.composer.x1 s.composer.y0 s.composer.y1 ++
      match s.composer.stream with
      | some (i, j) => [.word ['R', 'U', 'N', 'N', 'I', 'N', 'G'], numF i, numF j]
      | none => [.word ['E', 'N', 'D', 'E', 'D'], .empty, .empty])))

/-- R132: DOTS in every form, in a window and at a position that the invariant on the tables admits: a field that is no run of
bytes is refused; the bytes of a run go into the window from the position on, row by row, coming back to the origin when it is
full; a dot holds the bit of the last byte written over it, and every dot outside the window, or that no byte reached, stands.
Where the manual leaves a point open, the choice is the model's: log entry 12. -/
def Obligations.DotsFillTheWindow : Prop :=
  ∀ (data : Text) (s : State), s.canTake = true →
    s.composer.x0 ≤ s.composer.x1 → s.composer.x1 ≤ 63 → s.composer.y0 ≤ s.composer.y1 → s.composer.y1 ≤ 55 →
    let c := s.composer
    let len := (c.x1 - c.x0 + 8) / 8
    let cap := len * (c.y1 - c.y0 + 1)
    (∀ i j, c.stream = some (i, j) → i < c.y1 - c.y0 + 1 ∧ j < len) →
    let start := match c.stream with
      | some (i, j) => i * len + j
      | none => 0
    (data = [] ∨ hexBytes data = none → exec (.dots data) s = .next (s.replied .dots (refuseAt .form 1))) ∧
    (∀ bytes, data ≠ [] → hexBytes data = some bytes →
      let total := start + bytes.length
      ∃ e : EmblemRaster,
        exec (.dots data) s = .next (({ s with
          store := { s.store with emblem := e }
          composer := { c with stream := some (total % cap / len, total % cap % len) } } : State).replied .dots
            (ok [numF bytes.length, numF (total % cap / len), numF (total % cap % len), numF (total / cap)])) ∧
        ∀ (row col : Nat) (hr : row < 56), col < 64 →
          let place := (row - c.y0) * len + (col - c.x0) / 8
          (row < c.y0 ∨ c.y1 < row ∨ col < c.x0 ∨ c.x1 < col ∨ (∀ k, k < bytes.length → (start + k) % cap ≠ place) →
            e[row].getMsbD col = (s.store.emblem[row]).getMsbD col) ∧
          (c.y0 ≤ row → row ≤ c.y1 → c.x0 ≤ col → col ≤ c.x1 →
            ∀ (k : Nat) (b : Byte), bytes[k]? = some b → (start + k) % cap = place →
              (∀ k', k < k' → k' < bytes.length → (start + k') % cap ≠ place) →
              e[row].getMsbD col = b.getMsbD ((col - c.x0) % 8)))

/-- R120 to R125, R134: LTXT in every form: the refusals in their order, and the four text lines with whether the item was
found; and the bracket marks of the offsets of a third, a half, twelfths, and whole stops with a remainder. -/
def Obligations.LabelTextOfFrame : Prop :=
  (∀ (a : Nat), 1 ≤ a → a ≤ 36 →
    let s := a / 12
    let part : Text := match a % 12 with
      | 0 => []
      | 4 => ['1', '/', '3']
      | 6 => ['1', '/', '2']
      | 8 => ['2', '/', '3']
      | r => Nat.toDigits 10 r ++ ['/', '1', '2']
    let mark := (if s = 0 then [] else Nat.toDigits 10 s) ++ (if s = 0 ∨ a % 12 = 0 then [] else [' ']) ++ part
    bracketMark a = '+' :: mark ∧ bracketMark (-(a : Int)) = '-' :: mark) ∧
  ∀ (roll frame : Int) (s : State), s.canTake = true →
    exec (.ltxt roll frame) s = .next (s.replied .ltxt (
      if ¬(1 ≤ roll ∧ roll ≤ 65535 ∧ 1 ≤ frame ∧ frame ≤ 1000) then refuseAt .range 1
      else
        match s.rollNumbered roll.toNat with
        | none => refuseAt .none 1
        | some r =>
          if r.frameCount < frame.toNat then refuseAt .none 1
          else
            match s.frameAt roll.toNat frame.toNat with
            | none => refuseAt .none 1
            | some f =>
              if f.state ≠ .exposed ∧ f.state ≠ .spoiled then refuseAt .state 1
              else
                let digits (n : Nat) : Text := Nat.toDigits 10 n
                let code : Text := ((s.film r.film).map FilmRecord.code).getD []
                let offset : Int := (f.ref.map ItemRef.offset).getD 0
                let four : Text :=
                  digits roll.toNat ++ ['/'] ++ (List.replicate (3 - (digits frame.toNat).length) '0' ++ digits frame.toNat) ++
                    (if code = [] then [] else ' ' :: code) ++ (if offset = 0 then [] else ' ' :: bracketMark offset)
                let cut (t : Text) : Text := if t.length ≤ 32 then t else t.take 31 ++ ['~']
                match f.ref, f.ref.bind fun q => s.item q.order q.item with
                | some q, some it =>
                  ok [.text (it.catalogue ++
                        if 1 < it.copies then [' ', 'c'] ++ digits q.set ++ '/' :: digits it.copies else []),
                      .text (cut it.title), .text (cut it.credit), .text four, .word ['Y']]
                | _, _ => ok [.text [], .text [], .text [], .text four, .word ['N']]))

/-! ## Printing labels (chapter 7) -/

/-- R118, R119, R126, R139, R140, R141: a label edge event in FEEDING composes the label in hand and begins the printing: the
strobe time is that of the density selection, the transfer of row 0 begins, and the raster carries the emblem, clear margins,
and each character of the four lines drawn with its glyph, the cells after a line's end clear. In every other state it is
ignored. Where the manual leaves a point open, the choice is the model's: log entries 34 and 71 (the feed's row step in
progress). -/
def Obligations.LabelEdgeComposes : Prop :=
  ∀ (s : State), s.live = true →
    (s.printer.state ≠ .feeding → exec .labelEdge s = .next s) ∧
    (∀ h f, s.printer.state = .feeding → s.printer.hand = some h → s.frameAt h.roll h.frame = some f →
      ∃ raster : LabelRaster,
        exec .labelEdge s = .next { s with
          composer := { s.composer with raster := raster }
          printer :=
            { s.printer with
              state := .printing, rows := 0, transferring := true, strobing := false, stepping := false
              strobe := some (match s.store.density with
                | 1 => 160
                | 2 => 200
                | 8 => 290
                | _ => 240) } } ∧
        ∀ (row : Nat) (hr : row < 56) (col : Nat),
          (col < 64 → raster[row].getMsbD col = (s.store.emblem[row]).getMsbD col) ∧
          (64 ≤ col → col < 320 →
            (row < 4 ∨ 52 ≤ row → raster[row].getMsbD col = false) ∧
            (4 ≤ row → row < 52 →
              let text : Text := ((s.labelLines f).1[(row - 4) / 12]?).getD []
              (text.length ≤ (col - 64) / 8 → raster[row].getMsbD col = false) ∧
              (∀ (ch : Char) (g : Vector Byte 12), text[(col - 64) / 8]? = some ch → 32 ≤ ch.toNat → ch.toNat ≤ 126 →
                s.store.glyphs[ch.toNat - 32]? = some g →
                raster[row].getMsbD col = (g[(row - 4) % 12]'(by omega)).getMsbD ((col - 64) % 8)))))

/-- R137, R138, R139: PRNT in every form: its refusals in their order; the frames due for a label, up to the first undecided
frame and to 64 in the queue, become QUEUED and join the queue; the reply says why the look ended; and an idle channel with an
empty queue starts the first of them. The start of a label: FEEDING with the row counter at 0, or, with the paper out, STALLED
with its LABEL notice. Where the manual leaves a point open, the choice is the model's: log entry 8. -/
def Obligations.PrntQueuesDueFrames : Prop :=
  (∀ (roll : Int) (s : State), s.canTake = true →
     exec (.prnt roll) s = .next (
       if ¬(1 ≤ roll ∧ roll ≤ 65535) then s.replied .prnt (refuseAt .range 1)
       else
         match s.rollNumbered roll.toNat with
         | none => s.replied .prnt (refuseAt .none 1)
         | some r =>
           if (s.printer.queue.head?).any fun q => q.1 != r.number then s.replied .prnt (refuse .busy)
           else
             let cands := s.store.frames.filter fun f =>
               f.roll == r.number && (s.printer.queue.getLast?).all fun q => decide (q.2 < f.number)
             let before := cands.takeWhile fun f => !(f.state == .exposed && f.selection == some .undecided)
             let due := before.filter fun f => f.state == .exposed && f.selection == some .kept && f.label == .none
             let room := 64 - s.printer.queue.length
             let taken := (due.take room).map Frame.number
             let why : List RField :=
               match due[room]?, cands[before.length]? with
               | some f, _ => [.word ['F', 'U', 'L', 'L'], .frame r.number f.number]
               | none, some f => [.word ['U', 'N', 'D', 'E', 'C', 'I', 'D', 'E', 'D'], .frame r.number f.number]
               | none, none => [.word ['E', 'N', 'D']]
             let t : State :=
               { s.reserveTx with
                 store :=
                   { s.store with
                     frames := s.store.frames.map fun f =>
                       if f.roll == r.number && taken.contains f.number then { f with label := .queued } else f }
                 printer := { s.printer with queue := s.printer.queue ++ taken.map fun n => (r.number, n) } }
             let u := match taken.head? with
               | some n =>
                 if s.printer.queue = [] ∧ s.printer.state = ChanState.idle then
                   t.startLabel { roll := r.number, frame := n, kind := .queue }
                 else t
               | none => t
             u.replied .prnt (ok ([numF r.number, numF taken.length] ++ why)))) ∧
  ∀ (h : LabelHand) (t : State),
    let begun (c : ChanState) : Printer :=
      { t.printer with
        hand := some h, state := c, strobe := none, transferring := false, strobing := false, stepping := false }
    t.startLabel h =
      if t.printer.paperOut = true then
        ({ t with printer := begun (.stalled .paper) } : State).raise (.label h.roll .paper)
      else { t with printer := { begun .feeding with rows := 0, paperWait := false } }

/-- R139, R142, R145, R146, R147: PSTP, RPRT, DENS and LQUE in every form. Where the manual leaves a point open, the choice is
the model's: log entries 8 (the reply before the LABEL notice), 15, 19 and 34. -/
def Obligations.LabelChannelRequests : Prop :=
  ∀ (roll frame value : Int) (s : State), s.canTake = true →
    let cleared (refs : List (Nat × Nat)) (f : Frame) : Frame :=
      if refs.contains (f.roll, f.number) then { f with label := .none } else f
    let inHand : Nat := if s.printer.hand.any fun h => h.kind == .queue then 1 else 0
    (s.printer.state = .idle → exec .pstp s = .next (s.replied .pstp (ok [numF 0, .empty]))) ∧
    (∀ h, s.printer.state = .feeding ∨ s.printer.state = .printing ∨ s.printer.state = .presenting →
      s.printer.hand = some h →
      exec .pstp s = .next (({ s with
        store := { s.store with frames := s.store.frames.map (cleared (s.printer.queue.drop inHand)) }
        printer := { s.printer with queue := s.printer.queue.take inHand } } : State).replied .pstp
          (ok [numF (s.printer.queue.length - inHand), .frame h.roll h.frame]))) ∧
    (∀ h c, s.printer.state = .stalled c → s.printer.hand = some h →
      exec .pstp s = .next ((({ s.reserveTx with
        store := { s.store with frames := s.store.frames.map (cleared s.printer.queue) }
        printer := { s.printer with queue := [], hand := none, state := .idle, strobe := none, paperWait := false } } :
          State).raise (.label h.roll .stopped)).replied .pstp (ok [numF s.printer.queue.length, .empty]))) ∧
    exec (.rprt roll frame) s = .next (
      if ¬(1 ≤ roll ∧ roll ≤ 65535 ∧ 1 ≤ frame ∧ frame ≤ 1000) then s.replied .rprt (refuseAt .range 1)
      else
        match s.rollNumbered roll.toNat with
        | none => s.replied .rprt (refuseAt .none 1)
        | some r =>
          if r.frameCount < frame.toNat then s.replied .rprt (refuseAt .none 1)
          else
            match s.frameAt roll.toNat frame.toNat with
            | none => s.replied .rprt (refuseAt .none 1)
            | some f =>
              if ¬(f.selection = some .kept ∧ f.label = .printed) then s.replied .rprt (refuseAt .state 1)
              else if s.printer.state ≠ .idle then s.replied .rprt (refuse .busy)
              else
                let h : LabelHand := { roll := f.roll, frame := f.number, kind := .rprt }
                let p : Printer :=
                  { s.printer with hand := some h, strobe := none, transferring := false, strobing := false, stepping := false }
                (if s.printer.paperOut = true then
                  ({ s.reserveTx with printer := { p with state := .stalled .paper } } : State).raise (.label h.roll .paper)
                else { s.reserveTx with printer := { p with state := .feeding, rows := 0, paperWait := false } }).replied .rprt
                  (ok [])) ∧
    exec (.densWrite value) s = .next (
      if value = 1 ∨ value = 2 ∨ value = 4 ∨ value = 8 then
        ({ s with store := { s.store with density := value.toNat } } : State).replied .dens (ok [.num value])
      else s.replied .dens (ok [numF s.store.density, .word ['U', 'N', 'C', 'H', 'A', 'N', 'G', 'E', 'D']])) ∧
    exec .densQuery s = .next (s.replied .dens (ok [numF s.store.density])) ∧
    exec .lque s = .next (s.replied .lque (ok (
      [.word s.printer.state.word,
       match s.printer.state with
        | .stalled c => .word c.word
        | _ => .empty,
       match s.printer.hand with
        | some h => .frame h.roll h.frame
        | none => .empty,
       match s.printer.hand with
        | some h => .word h.kind.word
        | none => .empty,
       numF s.printer.rows, optF numF s.printer.strobe, numF s.store.density,
       .word (if s.printer.paperOut then ['O', 'U', 'T'] else ['P', 'R', 'E', 'S', 'E', 'N', 'T']),
       if s.printer.paperWait then .word ['W'] else .empty, numF s.printer.queue.length] ++
      s.printer.queue.map fun q => .frame q.1 q.2)))

/-- R139, R144: a feed's row steps up to the 120th, which stalls the channel; and the paper events and the paper wait's expiry
in each state of the channel. Where the manual leaves a point open, the choice is the model's: log entries 2 (a row step outside
FEEDING, an expiry with no wait, and paper that is already out or present), 34 and 43. -/
def Obligations.FeedAndPaperEvents : Prop :=
  ∀ (s : State), s.live = true →
    let p := s.printer
    let quiet (q : Printer) : Printer := { q with transferring := false, strobing := false, stepping := false }
    let out : State := { s with lines := { s.lines with paperOut := true }, printer := { p with paperOut := true } }
    let back : State := { s with lines := { s.lines with paperOut := false }, printer := { p with paperOut := false } }
    (p.state ≠ .feeding → exec .feedRowStep s = .next s ∧ exec .feedRowLimit s = .next s) ∧
    (∀ h, p.state = .feeding → p.hand = some h →
      let limit := ({ s with printer := quiet { p with state := .stalled .noGap, rows := 120 } } : State).raise
        (.label h.roll .noGap)
      (p.rows + 1 < 120 →
        exec .feedRowStep s = .next { s with printer := { p with rows := p.rows + 1 } } ∧ exec .feedRowLimit s = .next s) ∧
      (p.rows + 1 = 120 → exec .feedRowStep s = .next limit ∧ exec .feedRowLimit s = .next limit)) ∧
    (p.paperOut = true → exec .paperOut s = .next { s with lines := { s.lines with paperOut := true } }) ∧
    (p.paperOut = false →
      (∀ h, p.hand = some h → p.state = .feeding ∨ p.state = .printing ∨ p.state = .stalled .noGap →
        exec .paperOut s = .next
          (({ out with printer := quiet { p with paperOut := true, state := .stalled .paper } } : State).raise
            (.label h.roll .paper))) ∧
      (p.state = .stalled .paper → exec .paperOut s = .next { out with printer := { p with paperOut := true, paperWait := false } }) ∧
      (p.state = .presenting ∨ p.state = .idle → exec .paperOut s = .next out)) ∧
    (p.paperOut = false → exec .paperIn s = .next { s with lines := { s.lines with paperOut := false } }) ∧
    (p.paperOut = true →
      exec .paperIn s = .next (if p.state = .stalled .paper then
        { back with printer := { p with paperOut := false, paperWait := true } } else back)) ∧
    exec .paperWaitExpiry s = .next (
      if p.paperWait = true ∧ p.state = .stalled .paper then
        { s with printer := quiet { p with state := .feeding, rows := 0, strobe := none, paperWait := false } }
      else s)

/-- R140, R143: the printing of the rows, strobe by strobe, with the transfer and the paper step that each waits for; and the
row steps of PRESENTING, the 24th of which completes the label: a QUEUE label is counted at its item, PRINTED, looked at by the
Charge Unit, its roll checked (R14, said whole by PickAndRjctDecideSet), and taken from the queue, and the next is started or
the channel idles with its notice. Where the manual leaves a point open, the choice is the model's: log entries 2 (an event
where nothing runs, or outside PRESENTING), 34, 43, 65 (a PRNT taken during a reprint) and 78 (a row is latched as its strobe
begins). -/
def Obligations.PrintedRowsAndCompletion : Prop :=
  ∀ (s : State), s.live = true →
    let p := s.printer
    let row : BitVec 320 := (s.composer.raster[p.rows]?).getD 0
    (exec .strobeEnd s = .next (
      if p.state = .printing ∧ p.strobing = true then
        { s with
          printer :=
            { p with strobing := false, stepping := true, rows := p.rows + 1, transferring := decide (p.rows < 55) } }
      else s)) ∧
    (exec .rowTransferComplete s = .next (
      if p.state = .printing ∧ p.transferring = true then
        if p.stepping = true then { s with printer := { p with transferring := false, shift := row } }
        else { s with printer := { p with transferring := false, shift := row, latch := row, strobing := true } }
      else s)) ∧
    (exec .printPaperStep s = .next (
      if p.state = .printing ∧ p.stepping = true then
        if 56 ≤ p.rows then
          { s with
            printer :=
              { p with state := .presenting, rows := 0, transferring := false, strobing := false, stepping := false } }
        else if p.transferring = true then { s with printer := { p with stepping := false } }
        else { s with printer := { p with stepping := false, latch := p.shift, strobing := true } }
      else s)) ∧
    (p.state ≠ .presenting → exec .presentRowStep s = .next s ∧ exec .labelComplete s = .next s) ∧
    (∀ h, p.state = .presenting → p.hand = some h → p.rows < 23 →
      exec .presentRowStep s = .next { s with printer := { p with rows := p.rows + 1 } } ∧ exec .labelComplete s = .next s) ∧
    (∀ h f r, p.state = .presenting → p.hand = some h → p.rows = 23 → h.kind = .queue → s.frameAt h.roll h.frame = some f →
      f.ref = some r →
      let t := ({ s with printer := { p with rows := 24, queue := p.queue.tail } } : State).updateItem r.order r.item
        fun it => { it with labels := it.labels + 1 }
      let u := ((t.setFrame { f with label := .printed }).lookItem r.order r.item).checkRoll f.roll
      let v : State := { u with
        printer :=
          { u.printer with
            hand := none, state := .idle, strobe := none, transferring := false, strobing := false, stepping := false } }
      let w := match p.queue.tail with
        | (a, b) :: _ => v.startLabel { roll := a, frame := b, kind := .queue }
        | [] => v.raise (.label h.roll .empty)
      exec .presentRowStep s = .next w ∧ exec .labelComplete s = .next w) ∧
    (∀ h, p.state = .presenting → p.hand = some h → p.rows = 23 → h.kind = .rprt →
      let v : State := { s with
        printer :=
          { p with
            hand := none, state := .idle, strobe := none, rows := 24, transferring := false, strobing := false,
            stepping := false } }
      let w := match p.queue with
        | (a, b) :: _ => v.startLabel { roll := a, frame := b, kind := .queue }
        | [] => v.raise (.label h.roll .rprt)
      exec .presentRowStep s = .next w ∧ exec .labelComplete s = .next w)

/-! ## Charges and accounts (chapter 8) -/

/-- R150, R151: the two forms of RATE and the three of TIER: the refusals in their order, the class or the table that is
replaced whole by the clamped figures, and the queries. Where the manual leaves a point open, the choice is the model's: log
entries 15 and 72 (the class number in the reply to a write and in the answers to the queries). -/
def Obligations.RateAndTierRequests : Prop :=
  ∀ (cls frame reject spoil label minimum rush : Int) (asked : Option Int) (entries : List TierArg) (s : State),
    s.canTake = true →
    let listed (n : Nat) (c : RateClass) : List RField :=
      [numF n, numF c.frame, numF c.reject, numF c.spoil, numF c.label, numF c.minimum, numF c.rush]
    let near (hi v : Int) : Nat := (nearest 0 hi v).toNat
    exec (.rateWrite cls frame reject spoil label minimum rush) s = .next (
      if ¬(1 ≤ cls ∧ cls ≤ 8) then s.replied .rate (refuseAt .range 1)
      else
        let c : RateClass :=
          { frame := near 65535 frame, reject := near 65535 reject, spoil := near 65535 spoil, label := near 65535 label,
            minimum := near 999999 minimum, rush := near 1000 rush }
        ({ s with store := { s.store with rates := s.store.rates.setIfInBounds (cls.toNat - 1) c } } : State).replied .rate
          (ok (listed cls.toNat c)
            (clampedAt 2 0 65535 frame ++ clampedAt 3 0 65535 reject ++ clampedAt 4 0 65535 spoil ++ clampedAt 5 0 65535 label ++
              clampedAt 6 0 999999 minimum ++ clampedAt 7 0 1000 rush))) ∧
    exec (.rateQuery asked) s = .next (s.replied .rate (
      match asked with
      | none => ok ((s.store.rates.toList.zipIdx 1).flatMap fun p => listed p.2 p.1)
      | some n =>
        if h : 1 ≤ n ∧ n ≤ 8 then ok (listed n.toNat (s.store.rates[n.toNat - 1]'(by omega))) else refuseAt .range 1)) ∧
    exec (.tierWrite entries) s = .next (
      let l : List Tier := entries.map fun t =>
        { low := near 65535 t.low, high := near 65535 t.high, discount := near 1000 t.discount }
      if entries.length = 0 ∨ 8 < entries.length then s.replied .tier (refuse .form)
      else
        match l.findIdx? fun t => t.high < t.low with
        | some i => s.replied .tier (refuseAt .range (3 * i + 1))
        | none =>
          ({ s with store := { s.store with tiers := l } } : State).replied .tier
            (ok [] (entries.zipIdx.flatMap fun p : TierArg × Nat =>
              clampedAt (3 * p.2 + 1) 0 65535 p.1.low ++ clampedAt (3 * p.2 + 2) 0 65535 p.1.high ++
                clampedAt (3 * p.2 + 3) 0 1000 p.1.discount))) ∧
    exec .tierClear s = .next (({ s with store := { s.store with tiers := [] } } : State).replied .tier (ok [])) ∧
    exec .tierList s = .next (s.replied .tier (ok (s.store.tiers.zipIdx.flatMap fun p =>
      [numF p.2, numF p.1.low, numF p.1.high, numF p.1.discount])))

/-- R98, R152, R153, R154: the forms of ACCT, and ZERO: the refusals in their order; the account that is created, rewritten or
removed; what an account number finds and what the rewriting of an account leaves; and the release of the account, which
returns its orders held for ALLOWANCE or CLOSED to WAITING and starts a selection in WAITING. Where the manual leaves a point
open, the choice is the model's: log entries 8 (the reply before the PLACE notice of a selection), 15, 40 and 41. -/
def Obligations.AccountRequests : Prop :=
  (∀ (account cls : Int) (name : Text) (allowance : Option (Option Int)) (state : Option (Option AcctState)) (asked : Option Int)
     (s : State), s.canTake = true →
     let top : Int := 2147483647
     let limit (v : Int) : Nat := (nearest 0 top v).toNat
     let freed (o : Order) : Bool := o.account == account.toNat && (o.state == .held .allowance || o.state == .held .closed)
     let release (t : State) : State :=
       if s.store.book.posted.any freed then
         let u : State := { t with
           store :=
             { t.store with
               book :=
                 { t.store.book with
                   posted := t.store.book.posted.map fun o => if freed o then { o with state := .waiting } else o } } }
         if s.cycle.isWaiting then u.select else u
       else t
     let put (b : Account) : State := { s.reserveTx with
       store := { s.store with accounts := s.store.accounts.map fun x => if x.number = b.number then b else x } }
     let naming (n : Nat) : Nat := ((s.store.book.posted ++ s.store.book.building).filter fun o => o.account == n).length
     let report : List Nat := match allowance with
       | some (some v) => clampedAt 4 0 top v
       | _ => []
     exec (.acctWrite account name cls allowance state) s = .next (
       if ¬(1 ≤ account ∧ account ≤ 9999) then s.replied .acct (refuseAt .range 1)
       else if 24 < name.length then s.replied .acct (refuseAt .range 2)
       else if ¬(1 ≤ cls ∧ cls ≤ 8) then s.replied .acct (refuseAt .range 3)
       else if state = some none then s.replied .acct (refuseAt .range 5)
       else
         match s.account account.toNat with
         | some a =>
           let b : Account :=
             { a with
               name := name, cls := cls.toNat
               allowance := match allowance with
                 | some x => x.map limit
                 | none => a.allowance
               state := match state with
                 | some (some x) => x
                 | _ => a.state }
           (if a.allowance ≠ b.allowance ∨ (a.state = .closed ∧ b.state = .opened) then release (put b) else put b).replied
             .acct (ok [] report)
         | none =>
           if 64 ≤ s.store.accounts.length then s.replied .acct (refuse .full)
           else
             let a : Account :=
               { number := account.toNat, name := name, cls := cls.toNat, allowance := allowance.join.map limit, charged := 0,
                 committed := 0, period := 0, state := if state = some (some .closed) then .closed else .opened,
                 saturated := false }
             ({ s with
               store :=
                 { s.store with
                   accounts := (s.store.accounts.filter fun x => x.number < a.number) ++
                     a :: s.store.accounts.filter fun x => a.number ≤ x.number } } : State).replied .acct (ok [] report)) ∧
     exec (.acctQuery asked) s = .next (s.replied .acct (
       match asked with
       | none => ok (s.store.accounts.flatMap fun a => [numF a.number, .word (acctStateWord a.state)])
       | some n =>
         if ¬(1 ≤ n ∧ n ≤ 9999) then refuseAt .range 1
         else
           match s.account n.toNat with
           | none => refuseAt .none 1
           | some a =>
             ok [numF a.number, .text a.name, numF a.cls, optF numF a.allowance, numF a.charged, numF a.committed,
               numF a.period, .word (acctStateWord a.state), .word (if a.saturated then ['Y'] else ['N']),
               numF (naming a.number)])) ∧
     exec (.acctRemove account) s = .next (
       if ¬(1 ≤ account ∧ account ≤ 9999) then s.replied .acct (refuseAt .range 1)
       else
         match s.account account.toNat with
         | none => s.replied .acct (refuseAt .none 1)
         | some a =>
           if 0 < naming a.number then s.replied .acct (refuse .busy)
           else
             ({ s with store := { s.store with accounts := s.store.accounts.filter fun x => x.number != a.number } } :
               State).replied .acct (ok [])) ∧
     exec (.zero account) s = .next (
       if ¬(1 ≤ account ∧ account ≤ 9999) then s.replied .zero (refuseAt .range 1)
       else
         match s.account account.toNat with
         | none => s.replied .zero (refuse .none)
         | some a =>
           if a.committed ≠ 0 then s.replied .zero (refuse .busy)
           else
             (release { s.reserveTx with
               store :=
                 { s.store with
                   accounts := s.store.accounts.map fun x =>
                     if x.number = a.number then { x with charged := 0, period := 0, saturated := false } else x } }).replied
               .zero (ok [numF a.number, numF a.charged]))) ∧
  ∀ (n : Nat) (f : Account → Account) (s : State),
    s.account n = (s.store.accounts.find? fun a => a.number == n) ∧
    s.updateAccount n f = { s with
      store := { s.store with accounts := s.store.accounts.map fun a => if a.number = n then f a else a } }

/-- R162, R163: the two forms of TAKE, and the working of the waiting list: it stands while the journal has no room, its head
is taken when there is room, and it is worked until it is empty or the journal is full. What a place taken does, the settlement
of its item or the writing of its order's MINIMUM entry, is said whole by ItemSettles. That a place of an order that is not held
does nothing is the model's choice: log entry 67. -/
def Obligations.TakeAndWaitingList : Prop :=
  (∀ (n : Int) (s : State), s.canTake = true →
    let fields (e : Entry) : List RField :=
      match e.detail with
      | some d =>
        [numF e.seq, .word ['I', 'T', 'E', 'M'], numF e.account, numF e.order, numF d.item, numF d.kept, numF d.rejected,
          numF d.spoiled, numF d.labels, numF e.amount]
      | none =>
        [numF e.seq, .word ['M', 'I', 'N', 'I', 'M', 'U', 'M'], numF e.account, numF e.order, .empty, .empty, .empty, .empty,
          .empty, numF e.amount]
    let taken := s.store.journal.take n.toNat
    exec (.take n) s = .next (
      if ¬(1 ≤ n ∧ n ≤ 8) then s.replied .take (refuseAt .range 1)
      else if taken = [] then s.replied .take (ok [numF 0])
      else
        ({ s.reserveTx with
          store := { s.store with journal := s.store.journal.drop taken.length } } : State).workList.replied .take
            (ok (numF taken.length :: taken.flatMap fields))) ∧
    exec .takeState s = .next (s.replied .take (ok
      [numF s.store.journal.length,
       match s.store.journal with
        | e :: _ => numF e.seq
        | [] => .empty,
       numF s.store.seq, numF s.waiting.length]))) ∧
  ∀ (s : State),
    (s.live = true → exec .waitingListWork s = .next s.workList) ∧
    (s.waiting = [] ∨ 128 ≤ s.store.journal.length → s.workList = s) ∧
    (∀ w rest, s.waiting = w :: rest → s.store.journal.length < 128 →
      s.workList = (({ s with waiting := rest } : State).workPlace w).workList) ∧
    (∀ o i, s.order o = none → s.workPlace (.item o i) = s ∧ s.workPlace (.minimum o) = s) ∧
    (s.workList.waiting = [] ∨ 128 ≤ s.workList.store.journal.length)

/-- R151, R157, R158, R159, R160, R161, R162: the Charge Unit's look at an ended item whose frames are decided and labelled and
which the Shutter Timer does not hold, also one that was never admitted and has no rates: with no room for a needed entry it
joins the waiting list; otherwise it is priced and settled whole, as it is when its place on the waiting list is worked. The
look leaves an item that is not settleable, or waits already, as it is. And an order's final check, which removes the order,
writes the MINIMUM entry, or places it on the waiting list, and the working of a MINIMUM place, which writes that entry. -/
def Obligations.ItemSettles : Prop :=
  (∀ (o : Order) (it : Item) (a : Account) (s : State),
    s.order o.number = some o → (o.items.find? fun i => i.number == it.number) = some it → s.account o.account = some a →
    let settleable : Prop :=
      (it.state = .done ∨ it.state = .cancelled) ∧
      (∀ f ∈ s.store.frames, ∀ q, f.ref = some q → q.order = o.number → q.item = it.number →
        (f.state = .exposed → f.selection = some .kept ∨ f.selection = some .rejected) ∧
        (f.selection = some .kept → f.label = .printed)) ∧
      (∀ c, s.shutter.held = some c → ¬(c.ref.order = o.number ∧ c.ref.item = it.number))
    let r : Rates := it.rates.getD { frame := 0, reject := 0, spoil := 0, label := 0, rush := 0 }
    let entry : Bool := ¬(it.kept = 0 ∧ it.rejected = 0 ∧ it.spoiled = 0)
    let base := it.kept * r.frame + it.rejected * r.reject + it.spoiled * r.spoil + it.labels * r.label
    let d := ((s.store.tiers.find? fun t => t.low ≤ a.period && a.period ≤ t.high).map Tier.discount).getD 0
    let discounted := base - (base * d + 500) / 1000
    let exact := if o.cls = .rush then discounted + (discounted * r.rush + 500) / 1000 else discounted
    let amount := min exact 2147483647
    let sum (x : Account) : Account :=
      { x with
        charged := min (x.charged + amount) 2147483647
        saturated := x.saturated || decide (2147483647 < x.charged + amount) || decide (2147483647 < exact)
        committed := x.committed - it.estimate
        period := min 65535 (x.period + it.kept + it.rejected) }
    let written : Entry :=
      { seq := s.store.seq, account := o.account, order := o.number, amount := amount,
        detail := some
          { item := it.number, kept := it.kept, rejected := it.rejected, spoiled := it.spoiled, labels := it.labels } }
    let t : State := { s with
      store :=
        { s.store with
          journal := if entry then s.store.journal ++ [written] else s.store.journal
          seq := if entry then (if 65535 ≤ s.store.seq then 1 else s.store.seq + 1) else s.store.seq
          accounts := s.store.accounts.map fun x => if x.number = o.account then sum x else x
          frames := s.store.frames.map fun f =>
            if f.ref.any fun q => q.order == o.number && q.item == it.number then { f with charged := true } else f } }
    let u := t.updateOrder o.number fun q =>
      { q with
        items := q.items.map fun i => if i.number = it.number then { i with state := .settled } else i
        running := q.running + amount }
    let v := if entry then u.raise (.settle (s.store.journal.length + 1)) else u
    (settleable → .item o.number it.number ∉ s.waiting →
      s.lookItem o.number it.number =
        if entry ∧ 128 ≤ s.store.journal.length then { s with waiting := s.waiting ++ [.item o.number it.number] }
        else v.finalCheck o.number) ∧
    (¬settleable ∨ .item o.number it.number ∈ s.waiting → s.lookItem o.number it.number = s) ∧
    s.workPlace (.item o.number it.number) = v.finalCheck o.number) ∧
  ∀ (o : Order) (s : State), s.order o.number = some o →
    let without (t : State) : State := { t with
      store :=
        { t.store with
          book :=
            { posted := t.store.book.posted.filter fun q => q.number != o.number
              building := t.store.book.building.filter fun q => q.number != o.number } } }
    ((∃ i ∈ o.items, i.state ≠ .settled) → s.finalCheck o.number = s) ∧
    ((∀ m, o.minimum = some m → m ≤ o.running) →
      s.workPlace (.minimum o.number) = without s ∧
      ((∀ i ∈ o.items, i.state = .settled) → s.finalCheck o.number = without s)) ∧
    (∀ m, o.minimum = some m → o.running < m →
      let due := m - o.running
      let t : State := { s with
        store :=
          { s.store with
            journal := s.store.journal ++
              [{ seq := s.store.seq, account := o.account, order := o.number, detail := none, amount := due }]
            seq := if 65535 ≤ s.store.seq then 1 else s.store.seq + 1
            accounts := s.store.accounts.map fun x => if x.number = o.account then
              { x with
                charged := min (x.charged + due) 2147483647
                saturated := x.saturated || decide (2147483647 < x.charged + due) } else x } }
      let written := without (t.raise (.settle (s.store.journal.length + 1)))
      s.workPlace (.minimum o.number) = written ∧
      ((∀ i ∈ o.items, i.state = .settled) → s.finalCheck o.number =
        if 128 ≤ s.store.journal.length then { s with waiting := s.waiting ++ [.minimum o.number] } else written))

/-! ## The line link (chapter 9) -/

/-- R166, R167, R168, R169: what a received character, the end of a line and a timeout do to the line slots: a line begins in
an EMPTY slot, is stored to its 160th character, marked too long beyond that and malformed by a character that cannot be
stored, made READY at its CR or TIMED_OUT after 2 s; with both slots full its line is an overrun line, which counts at the
younger full slot at its end. Where the manual leaves a point open, the choice is the model's: log entries 2 (the end of a line
where none is being received), 31, 32, 38 and 51 (characters that are not stored count in their line). -/
def Obligations.LineSlotsReceive : Prop :=
  ∀ (c : Byte) (framing : Bool) (s : State), s.live = true →
    let l := s.link
    let put (m : Link) : State := ({ s with link := m } : State).wake
    let stored (x : LineSlot) : LineSlot :=
      let bad : Bool := framing = true ∨ c.toNat < 32 ∨ 126 < c.toNat
      if 160 ≤ x.count then { x with tooLong := true, malformed := x.malformed || bad }
      else if bad then { x with count := x.count + 1, malformed := true, badHead := x.badHead || decide (x.count < 4) }
      else { x with count := x.count + 1, chars := x.chars ++ [Char.ofNat c.toNat] }
    let plain : Bool := framing = true ∨ (c ≠ 10 ∧ c ≠ 13)
    let filling : Bool := l.slots.any fun x => x.state == .filling
    (∀ before x after, l.slots = before ++ x :: after → x.state = .filling → (∀ y ∈ before ++ after, y.state ≠ .filling) →
      (plain = true → exec (.characterReceived c framing) s = .next (put { l with slots := before ++ stored x :: after })) ∧
      (framing = false → c = 13 →
        exec (.characterReceived c framing) s = .next (put { l with slots := before ++ { x with state := .ready } :: after })) ∧
      exec .lineComplete s = .next (put { l with slots := before ++ { x with state := .ready } :: after }) ∧
      exec .partialLineTimeout s = .next (put { l with
        slots := before ++
          { x with state := .timedOut, chars := [], count := 0, badHead := false, tooLong := false, malformed := false } ::
            after })) ∧
    (framing = false → c = 10 → exec (.characterReceived c framing) s = .next (put l)) ∧
    (filling = false →
      (plain = true → exec (.characterReceived c framing) s = .next (put (
        if l.lost ≠ none then l
        else if l.discard = true then { l with lost := some .discarded }
        else if l.slots.length < 2 then
          { l with
            slots := l.slots ++
              [stored
                { state := .filling, chars := [], count := 0, badHead := false, tooLong := false, malformed := false,
                  overrun := 0 }] }
        else { l with lost := some .overrun }))) ∧
      (framing = false → c = 13 → l.lost ≠ some .overrun →
        exec (.characterReceived c framing) s = .next (put { l with lost := none })) ∧
      (framing = false → c = 13 → l.lost = some .overrun →
        exec (.characterReceived c framing) s = exec .overrunLineEnd s) ∧
      exec .lineComplete s = .next (put l) ∧
      exec .partialLineTimeout s = .next (put (if l.lost = some .discarded then { l with lost := none } else l))) ∧
    (l.lost ≠ some .overrun →
      exec .overrunLineEnd s = .next (put l) ∧ exec .overrunLineTimeout s = .next (put l)) ∧
    (l.lost = some .overrun →
      exec .overrunLineTimeout s = exec .overrunLineEnd s ∧
      (∀ before x after, l.slots = before ++ x :: after → x.state ≠ .filling → (∀ y ∈ after, y.state = .filling) →
        exec .overrunLineEnd s = .next (put { l with
          lost := none, slots := before ++ { x with overrun := min 255 (x.overrun + 1) } :: after })) ∧
      ((∀ y ∈ l.slots, y.state = .filling) →
        exec .overrunLineEnd s = .next (put
          ({ l with lost := none, overOwed := min 255 (l.overOwed + 1) } : Link).placeOvers)))

/-- R133, R168, R169, R170, R171, R172, R173, R175: the dispatch of the oldest full slot, when a request can be taken: a
TIMED_OUT slot and a line the Link refuses give their refusals, and any other line is carried out as the request it is; the
OVER replies of the slot follow. What the Link refuses: the first four characters, the fifth, the verb, the fields and their
count, with the form each field may have. And the end of a sent line: a sent reply leaves the queue, OVER replies owed take its
place, and the next line is the head reply or the first pending notice in the order of the kinds. An idle transmitter takes a
line as soon as one is there; a raised notice becomes pending in place of one of its kind; and OVER replies owed are placed as
the queue has room. Where the manual leaves a point open, the choice is the model's: log entries 2 (a line sent with the
transmitter idle), 7, 13, 14, 28 (a WIPE becomes due when its reply has been sent), 31 (a slot adds its whole overrun count),
51 (the first four characters of a malformed line), 59 (the moment of a dispatch) and 66 (a word with a lower-case letter). -/
def Obligations.DispatchAndSending : Prop :=
  (∀ (s : State),
    (s.canTake = false → exec .dispatch s = .next s) ∧
    ((∀ x ∈ s.link.slots, x.state = .filling) → exec .dispatch s = .next s) ∧
    (∀ before x after, s.canTake = true → s.link.slots = before ++ x :: after → (∀ y ∈ before, y.state = .filling) →
      let t : State := { s with link := { s.link with slots := before ++ after } }
      let owe (u : State) : State :=
        if u.link.discard = true then u
        else ({ u with link := { u.link with overOwed := u.link.overOwed + x.overrun } } : State).placeOvers
      let say (verb : Text) (code : Answer) (u : State) : State :=
        ({ u with link := { u.link with replies := u.link.replies ++ [{ verb := verb, answer := code }] } } : State).wake
      let verb : Text := if x.badHead then ['-', '-', '-', '-'] else lineVerb x.chars
      let told : State := if x.badHead = false ∧ x.chars.take 4 = ['D', 'O', 'T', 'S'] then t
        else { t with composer := { t.composer with stream := none } }
      (x.state = .timedOut → exec .dispatch s = .next (owe (say ['-', '-', '-', '-'] (refuse .part) t))) ∧
      (x.state = .ready → x.tooLong = true →
        exec .dispatch s = .next (owe (say verb (refuse .long) told))) ∧
      (x.state = .ready → x.tooLong = false → x.malformed = true →
        exec .dispatch s = .next (owe (say verb (refuse .form) told))) ∧
      (∀ a, x.state = .ready → x.tooLong = false → x.malformed = false → checkLine x.chars = .error a →
        exec .dispatch s = .next (owe (say verb a told))) ∧
      (∀ v i, x.state = .ready → x.tooLong = false → x.malformed = false → checkLine x.chars = .ok (v, i) →
        isRequest i = true ∧ ∃ u, exec i t = .next u ∧ exec .dispatch s = .next (owe u)))) ∧
  (∀ (t : Text), shortVerb t = none →
    let four : Prop := 4 ≤ t.length ∧ ∀ c ∈ t.take 4, 'A' ≤ c ∧ c ≤ 'Z'
    (¬four → checkLine t = .error (refuse .form) ∧ lineVerb t = ['-', '-', '-', '-']) ∧
    (four → lineVerb t = t.take 4) ∧
    (∀ c rest, four → t.drop 4 = c :: rest → c ≠ ' ' → checkLine t = .error (refuse .form)) ∧
    (four → t.drop 4 = [] ∨ (∃ rest, t.drop 4 = ' ' :: rest) → (∀ v : Verb, v.text ≠ t.take 4) →
      checkLine t = .error (refuse .verb)) ∧
    (∀ v : Verb, v.text = t.take 4 → t.drop 4 = [] ∨ (∃ rest, t.drop 4 = ' ' :: rest) →
      checkLine t = match parseFields ((t.drop 4).drop 1) with
        | .error n => .error (refuseAt .form n)
        | .ok l =>
          if 24 < l.length then .error (refuse .form)
          else match readRequest v l with
            | .error a => .error a
            | .ok i => .ok (v, i))) ∧
  (∀ (fs : List Field) (t : Text) (c : Char) (rest : Text),
    let plain (u : Text) : Prop := ∀ d ∈ u, d ≠ ',' ∧ d ≠ '"' ∧ d ≠ ' '
    let written : Field → Text := fun f => match f with
      | .empty => []
      | .plain u => u
      | .quoted u => '"' :: (u.flatMap fun d => if d = '"' then ['"', '"'] else [d]) ++ ['"']
    let good : Field → Prop := fun f => match f with
      | .empty => True
      | .plain u => u ≠ [] ∧ plain u
      | .quoted _ => True
    let before : Text := fs.flatMap fun f => written f ++ [',']
    (∀ f ∈ fs, good f) →
    parseFields [] = .ok [] ∧
    (∀ f, good f → before ++ written f ≠ [] → parseFields (before ++ written f) = .ok (fs ++ [f])) ∧
    (plain t → c = ' ' ∨ (c = '"' ∧ t ≠ []) → parseFields (before ++ t ++ c :: rest) = .error (fs.length + 1)) ∧
    (c ≠ ',' → c ≠ '"' → parseFields (before ++ written (.quoted t) ++ c :: rest) = .error (fs.length + 1)) ∧
    parseFields (before ++ '"' :: t.flatMap fun d => if d = '"' then ['"', '"'] else [d]) = .error (fs.length + 1)) ∧
  ∀ (s : State),
    let choose (t : State) : State :=
      match t.link.replies with
      | _ :: _ => { t with outbox := { t.outbox with tx := .reply } }
      | [] =>
        match [NoticeKind.place, .halt, .done, .roll, .zone, .label, .settle, .meter].findSome? fun k =>
            t.outbox.notices.find? fun n => n.kind == k with
        | some n => { t with outbox := { tx := .notice n, notices := t.outbox.notices.filter fun m => m.kind != n.kind } }
        | none => { t with outbox := { t.outbox with tx := .idle } }
    let wake (t : State) : State := if t.outbox.tx = .idle then choose t else t
    (s.live = true →
      (s.outbox.tx = .idle → exec .lineSent s = .next s) ∧
      (∀ n, s.outbox.tx = .notice n → exec .lineSent s = .next (choose s)) ∧
      (∀ r rest, s.outbox.tx = .reply → s.link.replies = r :: rest →
        let n := min s.link.overOwed (4 - rest.length)
        let after : After := match r.answer with
          | .accept _ _ a => a
          | .refuse _ _ => .nothing
        exec .lineSent s = .next (choose { s with
          wipeDue := s.wipeDue || after == .wipe
          link :=
            { s.link with
              replies := rest ++ List.replicate n { verb := ['-', '-', '-', '-'], answer := refuse .over }
              overOwed := s.link.overOwed - n
              discard := s.link.discard && after != .rset
              rate := match after with
                | .baud v => v
                | _ => s.link.rate } }))) ∧
    s.wake = wake s ∧
    (∀ (n : Notice), s.raise n = wake { s with
      outbox := { s.outbox with notices := (s.outbox.notices.filter fun m => m.kind != n.kind) ++ [n] } }) ∧
    (let k := min s.link.overOwed (4 - s.link.replies.length)
     s.placeOvers = wake { s with
       link :=
         { s.link with
           replies := s.link.replies ++ List.replicate k { verb := ['-', '-', '-', '-'], answer := refuse .over }
           overOwed := s.link.overOwed - k } })

/-- R176, R186: STAT answers with its nineteen fields and MEMS with the markers and the start record; neither changes anything.
Where the manual leaves a point open, the choice is the model's: log entry 19. -/
def Obligations.StatAndMems : Prop :=
  ∀ (s : State), s.canTake = true →
    let yes (b : Bool) : RField := .word (if b then ['Y'] else ['N'])
    let last := s.openRoll.bind fun r => s.frameAt r.number r.frameCount
    let kinds := [NoticeKind.place, .halt, .done, .roll, .zone, .label, .settle, .meter].filter fun k =>
      s.outbox.notices.any fun n => n.kind == k
    exec .stat s = .next (s.replied .stat (ok
      [.word s.cycle.state.word,
       match s.cycle.state with
        | .waiting c => .word c.word
        | .halted c _ => .word c.word
        | _ => .empty,
       optF (fun r => numF (Roll.number r)) s.openRoll, optF (fun r => .word (Roll.stateWord (Roll.state r))) s.openRoll,
       optF (fun f => numF (Frame.number f)) last, optF (fun f => .word (Frame.state f).word) last,
       .num s.transport.count, yes s.transport.held, yes s.transport.advance.isSome,
       .word (if s.transport.filmEndOpen then ['O', 'P', 'E', 'N'] else ['C', 'L', 'O', 'S', 'E', 'D']),
       .word s.shutter.phase.word, numF s.contexts.length, .word s.printer.state.word, numF s.printer.queue.length,
       numF (1024 - s.store.frames.length), numF s.store.journal.length, numF s.waiting.length,
       if kinds = [] then .empty else .plus (kinds.map NoticeKind.word), numF s.link.rate])) ∧
    exec .mems s = .next (s.replied .mems (ok (
      [if s.store.valid then .word ['V'] else .empty, .word (if s.store.marker = none then ['C'] else ['S']),
       .word s.store.startRecord.kind.word, numF s.store.startRecord.warnings] ++
      (match s.store.startRecord.gate with
        | some (roll, frame, spoiled) =>
          [.frame roll frame, .word (if spoiled then ['S', 'P', 'O', 'I', 'L', 'E', 'D'] else ['V', 'O', 'I', 'D'])]
        | none => [.empty, .empty]) ++
      [optF RField.num s.store.startRecord.count])))

/-! ## Retained memory, power loss and start-up (chapter 10) -/

/-- Chapter 10.1, R48, R65, R83, R117, R149, R178, R181, R182: the state that a cold start leaves, field by field, at the
power-on with an invalid validity marker and after the WIPE reply. The input lines are the outside's. Where the manual leaves a
point open, the choice is the model's: log entries 2 (a power-on given to a running part, an exhausted battery with the supply
present, and a cold start that is not due), 23, 26, 27 (no line is being lost), 28 (no WIPE is due), 36, 49 and 74 (the
reference of an index check that is STARTING). -/
def Obligations.ColdStartValues : Prop :=
  ∀ (s : State),
    let retained (kind : StartKind) : Store :=
      { valid := true
        conf :=
          { encoder := .quad, leader := 8, tail := 5, slipTol := 6, gateTol := 12, slowDist := 48, settle := 40, stall := 96,
            samples := 16, openTo := 60, closeTo := 60, warmup := 800, baud := 19200 }
        rolls := [], rollCounter := 0, frames := [], lastStop := 0, zone0 := none, zones := []
        ramp := [5000, 3600, 2800, 2300, 2000, 1800, 1660, 1560]
        slots := Vector.replicate 4 none, gains := Vector.replicate 4 16384
        windows := Vector.replicate 3 { mask := 0, low := 0, high := 65535 }
        films := Vector.replicate 8 none, plans := Vector.replicate 7 none, copyTrim := 0, stageTrim := 0, marker := none
        book := { posted := [], building := [] }
        glyphs := Vector.replicate 95 (Vector.replicate 12 0), emblem := Vector.replicate 56 0, density := 4
        rates := Vector.replicate 8 { frame := 0, reject := 0, spoil := 0, label := 0, minimum := 0, rush := 0 }
        tiers := [], accounts := [], journal := [], seq := 1
        startRecord := { kind := kind, warnings := 0, gate := none, count := none } }
    let dark : LampState := { on := false, warm := false }
    let cold (kind : StartKind) : State :=
      { supply := .running, resetLow := false, wipeDue := false, lines := s.lines, store := retained kind
        transport :=
          { count := 0, held := false, index := { state := .starting, reference := 0 }, slow := none, stop := none
            limit := none, marks := [], phase := 0, staged := 1, ired := true, active := 5000, buffered := 5000, rampPos := 0, rampDir := .accel, stagedRamp := none,
            advance := none, filmEndOpen := s.lines.fendOpen }
        meter :=
          { turn := 0, latest := Vector.replicate 4 none, live := false, trips := Vector.replicate 3 none, calibration := none,
            metering := none, records := Vector.replicate 4 none }
        contexts := []
        shutter :=
          { phase := .idle, held := none, ticks := 0, measured := none, contactOpen := s.lines.scontOpen, coil := false,
            timer := none }
        cycle := { state := .stopped, pause := false, copyLamp := dark, stageLamp := dark, warmTimer := none }
        composer := { x0 := 0, x1 := 63, y0 := 0, y1 := 55, stream := none, raster := Vector.replicate 56 0 }
        printer :=
          { state := .idle, hand := none, rows := 0, strobe := none, paperOut := s.lines.paperOut, paperWait := false,
            queue := [], transferring := false, strobing := false, stepping := false, shift := 0, latch := 0 }
        waiting := []
        link := { slots := [], lost := none, replies := [], overOwed := 0, discard := false, rate := 19200 }
        outbox := { tx := .idle, notices := [] }
        pending := s.pending }
    (s.supply ≠ .running → s.store.valid = false → exec .powerOn s = .next (cold .cold)) ∧
    (s.live = true → s.wipeDue = true → exec .wipeColdStart s = .next (cold .wipe)) ∧
    (s.live = false ∨ s.wipeDue = false → exec .wipeColdStart s = .next s) ∧
    (s.supply = .running → exec .powerOn s = .next s) ∧
    (s.supply = .off → exec .batteryExhausted s = .next { s with store := { s.store with valid := false } }) ∧
    (s.supply ≠ .off → exec .batteryExhausted s = .next s)

/-- R48, R117, R149, R178, R179, R181, R183, R184, R186 and R180: the power-fail warning releases the coil, switches the lamps
off and counts itself, in a part that runs. It finds the store as the retained writes made before it left it: where a command
waits behind the warning, the store may be that of any write of the command's step, or that from before the step. The last
write is the store that the step ends in, each write gains at most one frame record, an outcome's frame and marker are one
write, and the marker is invalid at every write of a cold start but the last and valid at every write of a warm start. A
power-on with a valid marker restores the part from the store: the volatile state at its start values, the sprocket count at
the last completed stop count, the POSITIONED gate frame SPOILED or VOID by the exposing marker, the ACTIVE item's QUEUED steps
PENDING, the waiting list rebuilt in posting order, and the start record written. Where the manual leaves a point open, the
choice is the model's: log entries 2 (a warning in a part that does not run, a VCC failure without a warning before it), 3, 23,
25 (a VCC failure without the warning), 26, 27 (no line is being lost), 28 (no WIPE is due), 29, 36, 45 (what no supply holds),
49, 52 (which writes came before the warning), 60, 61 (what is one write), 73 (a TAKE's removal and each settlement) and 74
(the reference of an index check that is STARTING). -/
def Obligations.WarmStartRestores : Prop :=
  ∀ (c : Instr) (s : State),
    let dark : LampState := { on := false, warm := false }
    let warned (st : Store) : State := { s with
      supply := .warned
      lines := { s.lines with falls := s.lines.falls + 1 }
      store := { st with startRecord := { st.startRecord with warnings := min 65535 (st.startRecord.warnings + 1) } }
      transport := { s.transport with ired := true }
      shutter := { s.shutter with coil := false }
      cycle := { s.cycle with copyLamp := dark, stageLamp := dark }
      printer := { s.printer with strobing := false, stepping := false } }
    (s.supply = .running → s.pending = [] → exec .powerFailWarning s = .next (warned s.store)) ∧
    (s.supply = .running → s.pending.head? = some c →
      ∃ st, st ∈ s.store :: s.writesOf c ∧ exec .powerFailWarning s = .next (warned st)) ∧
    (s.supply ≠ .running → s.pending.head? ≠ some .powerOn → exec .powerFailWarning s = .next s) ∧
    (s.supply ≠ .running → s.pending.head? = some .powerOn → exec .powerFailWarning s = .next s ∨
      ∃ st, st ∈ s.writesOf .powerOn ∧ exec .powerFailWarning s = .next (warned st)) ∧
    (∀ t st, exec c s = .next t → (s.writesOf c).getLast? = some st → t.store = st) ∧
    (∀ l a b r, s.store :: s.writesOf c = l ++ a :: b :: r → b.frames.length ≤ a.frames.length + 1) ∧
    (∀ f, s.gateFrame = some f → ∀ st ∈ s.writesOf .contactClosed, st.marker = none ∧
      ∀ g ∈ st.frames, g.roll = f.roll → g.number = f.number → g.state ≠ .positioned) ∧
    (s.live = true → s.wipeDue = true → s.writesOf .wipeColdStart ≠ [] ∧
      ∀ st ∈ (s.writesOf .wipeColdStart).dropLast, st.valid = false) ∧
    (s.supply ≠ .running → s.store.valid = false → s.writesOf .powerOn ≠ [] ∧
      ∀ st ∈ (s.writesOf .powerOn).dropLast, st.valid = false) ∧
    (s.store.valid = true → ∀ st ∈ s.writesOf .powerOn, st.valid = true) ∧
    (s.supply ≠ .warned → exec .vccFailure s = .next s) ∧
    (s.supply = .warned → exec .vccFailure s = .next
      { supply := .off, resetLow := false, wipeDue := false, lines := s.lines, store := s.store
        transport :=
          { count := 0, held := false, index := { state := .starting, reference := 0 }, slow := none, stop := none
            limit := none, marks := [], phase := 0, staged := 1, ired := true, active := 0, buffered := 0, rampPos := 0, rampDir := .accel, stagedRamp := none,
            advance := none, filmEndOpen := s.lines.fendOpen }
        meter :=
          { turn := 0, latest := Vector.replicate 4 none, live := false, trips := Vector.replicate 3 none, calibration := none,
            metering := none, records := Vector.replicate 4 none }
        contexts := []
        shutter :=
          { phase := .idle, held := none, ticks := 0, measured := none, contactOpen := s.lines.scontOpen, coil := false,
            timer := none }
        cycle := { state := .stopped, pause := false, copyLamp := dark, stageLamp := dark, warmTimer := none }
        composer := { x0 := 0, x1 := 63, y0 := 0, y1 := 55, stream := none, raster := Vector.replicate 56 0 }
        printer :=
          { state := .idle, hand := none, rows := 0, strobe := none, paperOut := s.lines.paperOut, paperWait := false,
            queue := [], transferring := false, strobing := false, stepping := false, shift := 0, latch := 0 }
        waiting := []
        link := { slots := [], lost := none, replies := [], overOwed := 0, discard := false, rate := s.store.conf.baud }
        outbox := { tx := .idle, notices := [] }
        pending := s.pending }) ∧
    (s.supply ≠ .running → s.store.valid = true →
      let first := s.store.interval 0
      let unqueued : Store :=
        { s.store with
          frames := s.store.frames.map fun f => if f.label = .queued then { f with label := .none } else f
          rolls := match s.openRoll with
            | some r =>
              if s.lines.fendOpen = true ∧ r.tail = none then replaceRoll { r with tail := some s.store.conf.tail } s.store.rolls
              else s.store.rolls
            | none => s.store.rolls }
      let t : State :=
        { supply := .running, resetLow := false, wipeDue := false, lines := s.lines, store := unqueued
          transport :=
            { count := s.store.lastStop, held := false, index := { state := .starting, reference := 0 }, slow := none
              stop := none, limit := none, marks := [], phase := 0, staged := 1, ired := true, active := first, buffered := first, rampPos := 0,
              rampDir := .accel, stagedRamp := none, advance := none, filmEndOpen := s.lines.fendOpen }
          meter :=
            { turn := 0, latest := Vector.replicate 4 none, live := false, trips := Vector.replicate 3 none,
              calibration := none, metering := none, records := Vector.replicate 4 none }
          contexts := []
          shutter :=
            { phase := .idle, held := none, ticks := 0, measured := none, contactOpen := s.lines.scontOpen, coil := false,
              timer := none }
          cycle := { state := .stopped, pause := false, copyLamp := dark, stageLamp := dark, warmTimer := none }
          composer := { x0 := 0, x1 := 63, y0 := 0, y1 := 55, stream := none, raster := Vector.replicate 56 0 }
          printer :=
            { state := .idle, hand := none, rows := 0, strobe := none, paperOut := s.lines.paperOut, paperWait := false,
              queue := [], transferring := false, strobing := false, stepping := false, shift := 0, latch := 0 }
          waiting := []
          link := { slots := [], lost := none, replies := [], overOwed := 0, discard := false, rate := s.store.conf.baud }
          outbox := { tx := .idle, notices := [] }
          pending := s.pending }
      let gated : State := match t.gateFrame, s.store.marker with
        | some f, some c =>
          (t.setFrame
            { f with
              state := .spoiled, cause := some .power, ref := some c.ref
              computed := some { logT := c.logT, planned := c.planned, light := c.light, flags := c.flags }
              measured := some 0 }).updateItem c.ref.order c.ref.item fun it => { it with spoiled := it.spoiled + 1 }
        | some f, none => t.setFrame { f with state := .void, cause := some .power }
        | none, _ => t
      let u : State := { gated with store := { gated.store with marker := none } }
      let v := match u.active with
        | some (o, it) =>
          let w := u.updateItem o.number it.number fun i : Item =>
            { i with steps := i.steps.map fun l : List StepStatus => l.map fun st : StepStatus => if st = StepStatus.queued then StepStatus.pending else st }
          w.endCancelPending
        | none => u
      let ended := v.store.book.posted.flatMap fun o =>
        (o.items.filter fun i => i.state == .done || i.state == .cancelled).map fun i => (o.number, i.number)
      let complete := (v.store.book.posted.filter fun o =>
        o.state == .done && o.items.all fun i => i.state == .settled).map Order.number
      let x := complete.foldl (fun y n => y.finalCheck n)
        (ended.foldl (fun y p => y.lookItem p.1 p.2) ({ v with waiting := [] } : State))
      exec .powerOn s = .next { x with
        store :=
          { x.store with
            startRecord :=
              { x.store.startRecord with
                kind := .warm, count := some s.store.lastStop
                gate := t.gateFrame.map fun f : Frame => (f.roll, f.number, s.store.marker.isSome) } } })

/-- R48, R65, R83, R117, R149, R178, R182, R185, R186: WIPE, RSET, the reset line and its release: the part acts as ABRT does,
gives the outcome of a closing at once, keeps the count with its hold, and sets every block to its reset values; lines around
RSET and WIPE are discarded; the Line Link is cleared by the reset line; and the start record is written. Where the manual
leaves a point open, the choice is the model's: log entries 2 (a release with RESET not low), 6 (nothing is read again at the
rise of RESET), 8, 23 (the staged pattern stays), 24, 27, 29, 36, 49, 64 (the halt roll goes with HALTED) and 74 (the reference
of an index check that is STARTING). -/
def Obligations.ResetsAndWipe : Prop :=
  ∀ (all : Bool) (s : State),
    let dark : LampState := { on := false, warm := false }
    let first (t : State) : Nat := t.store.interval 0
    let given (t : State) : State := match t.shutter.phase with
      | .closing p _ => t.closingDone p
      | _ => t
    let blocks (t : State) : State := { t with
      store :=
        { t.store with
          frames := t.store.frames.map fun f => if f.label = .queued then { f with label := .none } else f
          rolls := match t.openRoll with
            | some r =>
              if t.lines.fendOpen = true ∧ r.tail = none then replaceRoll { r with tail := some t.store.conf.tail } t.store.rolls
              else t.store.rolls
            | none => t.store.rolls }
      transport :=
        { count := t.transport.count, held := t.transport.held, phase := t.transport.phase, staged := t.transport.staged,
          index := { t.transport.index with state := .starting }, slow := none, stop := none, limit := none, marks := [], ired := true, active := first t,
          buffered := first t, rampPos := 0, rampDir := .accel, stagedRamp := none, advance := none,
          filmEndOpen := t.lines.fendOpen }
      meter :=
        { t.meter with live := false, trips := Vector.replicate 3 none, calibration := none, metering := none }
      contexts := []
      shutter :=
        { phase := .idle, held := none, ticks := 0, measured := none, contactOpen := t.lines.scontOpen, coil := false,
          timer := none }
      cycle := { state := .stopped, pause := false, copyLamp := dark, stageLamp := dark, warmTimer := none }
      composer := { t.composer with stream := none, raster := Vector.replicate 56 0 }
      printer :=
        { state := .idle, hand := none, rows := 0, strobe := none, paperOut := t.lines.paperOut, paperWait := false,
          queue := [], transferring := false, strobing := false, stepping := false, shift := 0, latch := 0 } }
    let deaf (t : State) : State := { t with
      link :=
        { t.link with
          slots := [], overOwed := 0, discard := true
          lost := if (t.link.slots.any fun x => x.state == .filling) = true ∨ t.link.lost ≠ none then some .discarded else none } }
    let started (kind : StartKind) (t : State) : State :=
      { t with store := { t.store with startRecord := { t.store.startRecord with kind := kind } } }
    (s.canTake = true →
      exec (.wipe all) s = .next (
        if all = true then (deaf s.reserveTx.abortAll).replied .wipe (.accept [] [] .wipe)
        else s.replied .wipe (refuseAt .range 1)) ∧
      exec .rset s = .next (
        let t : State := { s.reserveTx with outbox := { s.reserveTx.outbox with notices := [] } }
        (started .rset (deaf (blocks (given t.abortAll)))).replied .rset (.accept [] [] .rset))) ∧
    (s.live = true →
      exec .resetLine s = .next (
        let t := blocks (given s.abortAll)
        { t with
          resetLow := true
          link :=
            { slots := [], lost := none, replies := [], overOwed := 0, discard := false, rate := s.link.rate }
          outbox := { tx := .idle, notices := [] } })) ∧
    (s.live = false → exec .resetLine s = .next s) ∧
    exec .resetRelease s = .next (
      if s.supply = .running ∧ s.resetLow = true then started .resetLine { s with resetLow := false } else s)
end

