-- ==== Sys2Proof/Laws/State.lean ====
section
/-! SUPPORT. One lemma for each field that a named update of the state leaves alone, so that no later proof unfolds a record
update. -/

namespace Sys2Proof.Machine

@[simp] theorem State.withCycle_supply (f : Cycle → Cycle) (s : State) : (State.withCycle f s).supply = s.supply := rfl
@[simp] theorem State.withCycle_resetLow (f : Cycle → Cycle) (s : State) : (State.withCycle f s).resetLow = s.resetLow := rfl
@[simp] theorem State.withCycle_wipeDue (f : Cycle → Cycle) (s : State) : (State.withCycle f s).wipeDue = s.wipeDue := rfl
@[simp] theorem State.withCycle_lines (f : Cycle → Cycle) (s : State) : (State.withCycle f s).lines = s.lines := rfl
@[simp] theorem State.withCycle_store (f : Cycle → Cycle) (s : State) : (State.withCycle f s).store = s.store := rfl
@[simp] theorem State.withCycle_transport (f : Cycle → Cycle) (s : State) : (State.withCycle f s).transport = s.transport := rfl
@[simp] theorem State.withCycle_meter (f : Cycle → Cycle) (s : State) : (State.withCycle f s).meter = s.meter := rfl
@[simp] theorem State.withCycle_contexts (f : Cycle → Cycle) (s : State) : (State.withCycle f s).contexts = s.contexts := rfl
@[simp] theorem State.withCycle_shutter (f : Cycle → Cycle) (s : State) : (State.withCycle f s).shutter = s.shutter := rfl
@[simp] theorem State.withCycle_composer (f : Cycle → Cycle) (s : State) : (State.withCycle f s).composer = s.composer := rfl
@[simp] theorem State.withCycle_printer (f : Cycle → Cycle) (s : State) : (State.withCycle f s).printer = s.printer := rfl
@[simp] theorem State.withCycle_waiting (f : Cycle → Cycle) (s : State) : (State.withCycle f s).waiting = s.waiting := rfl
@[simp] theorem State.withCycle_link (f : Cycle → Cycle) (s : State) : (State.withCycle f s).link = s.link := rfl
@[simp] theorem State.withCycle_outbox (f : Cycle → Cycle) (s : State) : (State.withCycle f s).outbox = s.outbox := rfl
@[simp] theorem State.withCycle_pending (f : Cycle → Cycle) (s : State) : (State.withCycle f s).pending = s.pending := rfl

@[simp] theorem State.withPrinter_supply (f : Printer → Printer) (s : State) : (State.withPrinter f s).supply = s.supply := rfl
@[simp] theorem State.withPrinter_resetLow (f : Printer → Printer) (s : State) : (State.withPrinter f s).resetLow = s.resetLow := rfl
@[simp] theorem State.withPrinter_wipeDue (f : Printer → Printer) (s : State) : (State.withPrinter f s).wipeDue = s.wipeDue := rfl
@[simp] theorem State.withPrinter_lines (f : Printer → Printer) (s : State) : (State.withPrinter f s).lines = s.lines := rfl
@[simp] theorem State.withPrinter_store (f : Printer → Printer) (s : State) : (State.withPrinter f s).store = s.store := rfl
@[simp] theorem State.withPrinter_transport (f : Printer → Printer) (s : State) : (State.withPrinter f s).transport = s.transport := rfl
@[simp] theorem State.withPrinter_meter (f : Printer → Printer) (s : State) : (State.withPrinter f s).meter = s.meter := rfl
@[simp] theorem State.withPrinter_contexts (f : Printer → Printer) (s : State) : (State.withPrinter f s).contexts = s.contexts := rfl
@[simp] theorem State.withPrinter_shutter (f : Printer → Printer) (s : State) : (State.withPrinter f s).shutter = s.shutter := rfl
@[simp] theorem State.withPrinter_cycle (f : Printer → Printer) (s : State) : (State.withPrinter f s).cycle = s.cycle := rfl
@[simp] theorem State.withPrinter_composer (f : Printer → Printer) (s : State) : (State.withPrinter f s).composer = s.composer := rfl
@[simp] theorem State.withPrinter_waiting (f : Printer → Printer) (s : State) : (State.withPrinter f s).waiting = s.waiting := rfl
@[simp] theorem State.withPrinter_link (f : Printer → Printer) (s : State) : (State.withPrinter f s).link = s.link := rfl
@[simp] theorem State.withPrinter_outbox (f : Printer → Printer) (s : State) : (State.withPrinter f s).outbox = s.outbox := rfl
@[simp] theorem State.withPrinter_pending (f : Printer → Printer) (s : State) : (State.withPrinter f s).pending = s.pending := rfl

@[simp] theorem State.setRoll_supply (r : Roll) (s : State) : (State.setRoll r s).supply = s.supply := rfl
@[simp] theorem State.setRoll_resetLow (r : Roll) (s : State) : (State.setRoll r s).resetLow = s.resetLow := rfl
@[simp] theorem State.setRoll_wipeDue (r : Roll) (s : State) : (State.setRoll r s).wipeDue = s.wipeDue := rfl
@[simp] theorem State.setRoll_lines (r : Roll) (s : State) : (State.setRoll r s).lines = s.lines := rfl
@[simp] theorem State.setRoll_transport (r : Roll) (s : State) : (State.setRoll r s).transport = s.transport := rfl
@[simp] theorem State.setRoll_meter (r : Roll) (s : State) : (State.setRoll r s).meter = s.meter := rfl
@[simp] theorem State.setRoll_contexts (r : Roll) (s : State) : (State.setRoll r s).contexts = s.contexts := rfl
@[simp] theorem State.setRoll_shutter (r : Roll) (s : State) : (State.setRoll r s).shutter = s.shutter := rfl
@[simp] theorem State.setRoll_cycle (r : Roll) (s : State) : (State.setRoll r s).cycle = s.cycle := rfl
@[simp] theorem State.setRoll_composer (r : Roll) (s : State) : (State.setRoll r s).composer = s.composer := rfl
@[simp] theorem State.setRoll_printer (r : Roll) (s : State) : (State.setRoll r s).printer = s.printer := rfl
@[simp] theorem State.setRoll_waiting (r : Roll) (s : State) : (State.setRoll r s).waiting = s.waiting := rfl
@[simp] theorem State.setRoll_link (r : Roll) (s : State) : (State.setRoll r s).link = s.link := rfl
@[simp] theorem State.setRoll_outbox (r : Roll) (s : State) : (State.setRoll r s).outbox = s.outbox := rfl
@[simp] theorem State.setRoll_pending (r : Roll) (s : State) : (State.setRoll r s).pending = s.pending := rfl

@[simp] theorem State.setFrame_supply (f : Frame) (s : State) : (State.setFrame f s).supply = s.supply := rfl
@[simp] theorem State.setFrame_resetLow (f : Frame) (s : State) : (State.setFrame f s).resetLow = s.resetLow := rfl
@[simp] theorem State.setFrame_wipeDue (f : Frame) (s : State) : (State.setFrame f s).wipeDue = s.wipeDue := rfl
@[simp] theorem State.setFrame_lines (f : Frame) (s : State) : (State.setFrame f s).lines = s.lines := rfl
@[simp] theorem State.setFrame_transport (f : Frame) (s : State) : (State.setFrame f s).transport = s.transport := rfl
@[simp] theorem State.setFrame_meter (f : Frame) (s : State) : (State.setFrame f s).meter = s.meter := rfl
@[simp] theorem State.setFrame_contexts (f : Frame) (s : State) : (State.setFrame f s).contexts = s.contexts := rfl
@[simp] theorem State.setFrame_shutter (f : Frame) (s : State) : (State.setFrame f s).shutter = s.shutter := rfl
@[simp] theorem State.setFrame_cycle (f : Frame) (s : State) : (State.setFrame f s).cycle = s.cycle := rfl
@[simp] theorem State.setFrame_composer (f : Frame) (s : State) : (State.setFrame f s).composer = s.composer := rfl
@[simp] theorem State.setFrame_printer (f : Frame) (s : State) : (State.setFrame f s).printer = s.printer := rfl
@[simp] theorem State.setFrame_waiting (f : Frame) (s : State) : (State.setFrame f s).waiting = s.waiting := rfl
@[simp] theorem State.setFrame_link (f : Frame) (s : State) : (State.setFrame f s).link = s.link := rfl
@[simp] theorem State.setFrame_outbox (f : Frame) (s : State) : (State.setFrame f s).outbox = s.outbox := rfl
@[simp] theorem State.setFrame_pending (f : Frame) (s : State) : (State.setFrame f s).pending = s.pending := rfl

@[simp] theorem State.setBook_supply (b : Book) (s : State) : (State.setBook b s).supply = s.supply := rfl
@[simp] theorem State.setBook_resetLow (b : Book) (s : State) : (State.setBook b s).resetLow = s.resetLow := rfl
@[simp] theorem State.setBook_wipeDue (b : Book) (s : State) : (State.setBook b s).wipeDue = s.wipeDue := rfl
@[simp] theorem State.setBook_lines (b : Book) (s : State) : (State.setBook b s).lines = s.lines := rfl
@[simp] theorem State.setBook_transport (b : Book) (s : State) : (State.setBook b s).transport = s.transport := rfl
@[simp] theorem State.setBook_meter (b : Book) (s : State) : (State.setBook b s).meter = s.meter := rfl
@[simp] theorem State.setBook_contexts (b : Book) (s : State) : (State.setBook b s).contexts = s.contexts := rfl
@[simp] theorem State.setBook_shutter (b : Book) (s : State) : (State.setBook b s).shutter = s.shutter := rfl
@[simp] theorem State.setBook_cycle (b : Book) (s : State) : (State.setBook b s).cycle = s.cycle := rfl
@[simp] theorem State.setBook_composer (b : Book) (s : State) : (State.setBook b s).composer = s.composer := rfl
@[simp] theorem State.setBook_printer (b : Book) (s : State) : (State.setBook b s).printer = s.printer := rfl
@[simp] theorem State.setBook_waiting (b : Book) (s : State) : (State.setBook b s).waiting = s.waiting := rfl
@[simp] theorem State.setBook_link (b : Book) (s : State) : (State.setBook b s).link = s.link := rfl
@[simp] theorem State.setBook_outbox (b : Book) (s : State) : (State.setBook b s).outbox = s.outbox := rfl
@[simp] theorem State.setBook_pending (b : Book) (s : State) : (State.setBook b s).pending = s.pending := rfl

@[simp] theorem State.updateOrder_supply (n : Nat) (f : Order → Order) (s : State) : (State.updateOrder n f s).supply = s.supply := rfl
@[simp] theorem State.updateOrder_resetLow (n : Nat) (f : Order → Order) (s : State) : (State.updateOrder n f s).resetLow = s.resetLow := rfl
@[simp] theorem State.updateOrder_wipeDue (n : Nat) (f : Order → Order) (s : State) : (State.updateOrder n f s).wipeDue = s.wipeDue := rfl
@[simp] theorem State.updateOrder_lines (n : Nat) (f : Order → Order) (s : State) : (State.updateOrder n f s).lines = s.lines := rfl
@[simp] theorem State.updateOrder_transport (n : Nat) (f : Order → Order) (s : State) : (State.updateOrder n f s).transport = s.transport := rfl
@[simp] theorem State.updateOrder_meter (n : Nat) (f : Order → Order) (s : State) : (State.updateOrder n f s).meter = s.meter := rfl
@[simp] theorem State.updateOrder_contexts (n : Nat) (f : Order → Order) (s : State) : (State.updateOrder n f s).contexts = s.contexts := rfl
@[simp] theorem State.updateOrder_shutter (n : Nat) (f : Order → Order) (s : State) : (State.updateOrder n f s).shutter = s.shutter := rfl
@[simp] theorem State.updateOrder_cycle (n : Nat) (f : Order → Order) (s : State) : (State.updateOrder n f s).cycle = s.cycle := rfl
@[simp] theorem State.updateOrder_composer (n : Nat) (f : Order → Order) (s : State) : (State.updateOrder n f s).composer = s.composer := rfl
@[simp] theorem State.updateOrder_printer (n : Nat) (f : Order → Order) (s : State) : (State.updateOrder n f s).printer = s.printer := rfl
@[simp] theorem State.updateOrder_waiting (n : Nat) (f : Order → Order) (s : State) : (State.updateOrder n f s).waiting = s.waiting := rfl
@[simp] theorem State.updateOrder_link (n : Nat) (f : Order → Order) (s : State) : (State.updateOrder n f s).link = s.link := rfl
@[simp] theorem State.updateOrder_outbox (n : Nat) (f : Order → Order) (s : State) : (State.updateOrder n f s).outbox = s.outbox := rfl
@[simp] theorem State.updateOrder_pending (n : Nat) (f : Order → Order) (s : State) : (State.updateOrder n f s).pending = s.pending := rfl

@[simp] theorem State.updateItem_supply (o i : Nat) (f : Item → Item) (s : State) : (State.updateItem o i f s).supply = s.supply := rfl
@[simp] theorem State.updateItem_resetLow (o i : Nat) (f : Item → Item) (s : State) : (State.updateItem o i f s).resetLow = s.resetLow := rfl
@[simp] theorem State.updateItem_wipeDue (o i : Nat) (f : Item → Item) (s : State) : (State.updateItem o i f s).wipeDue = s.wipeDue := rfl
@[simp] theorem State.updateItem_lines (o i : Nat) (f : Item → Item) (s : State) : (State.updateItem o i f s).lines = s.lines := rfl
@[simp] theorem State.updateItem_transport (o i : Nat) (f : Item → Item) (s : State) : (State.updateItem o i f s).transport = s.transport := rfl
@[simp] theorem State.updateItem_meter (o i : Nat) (f : Item → Item) (s : State) : (State.updateItem o i f s).meter = s.meter := rfl
@[simp] theorem State.updateItem_contexts (o i : Nat) (f : Item → Item) (s : State) : (State.updateItem o i f s).contexts = s.contexts := rfl
@[simp] theorem State.updateItem_shutter (o i : Nat) (f : Item → Item) (s : State) : (State.updateItem o i f s).shutter = s.shutter := rfl
@[simp] theorem State.updateItem_cycle (o i : Nat) (f : Item → Item) (s : State) : (State.updateItem o i f s).cycle = s.cycle := rfl
@[simp] theorem State.updateItem_composer (o i : Nat) (f : Item → Item) (s : State) : (State.updateItem o i f s).composer = s.composer := rfl
@[simp] theorem State.updateItem_printer (o i : Nat) (f : Item → Item) (s : State) : (State.updateItem o i f s).printer = s.printer := rfl
@[simp] theorem State.updateItem_waiting (o i : Nat) (f : Item → Item) (s : State) : (State.updateItem o i f s).waiting = s.waiting := rfl
@[simp] theorem State.updateItem_link (o i : Nat) (f : Item → Item) (s : State) : (State.updateItem o i f s).link = s.link := rfl
@[simp] theorem State.updateItem_outbox (o i : Nat) (f : Item → Item) (s : State) : (State.updateItem o i f s).outbox = s.outbox := rfl
@[simp] theorem State.updateItem_pending (o i : Nat) (f : Item → Item) (s : State) : (State.updateItem o i f s).pending = s.pending := rfl

@[simp] theorem State.updateAccount_supply (n : Nat) (f : Account → Account) (s : State) : (State.updateAccount n f s).supply = s.supply := rfl
@[simp] theorem State.updateAccount_resetLow (n : Nat) (f : Account → Account) (s : State) : (State.updateAccount n f s).resetLow = s.resetLow := rfl
@[simp] theorem State.updateAccount_wipeDue (n : Nat) (f : Account → Account) (s : State) : (State.updateAccount n f s).wipeDue = s.wipeDue := rfl
@[simp] theorem State.updateAccount_lines (n : Nat) (f : Account → Account) (s : State) : (State.updateAccount n f s).lines = s.lines := rfl
@[simp] theorem State.updateAccount_transport (n : Nat) (f : Account → Account) (s : State) : (State.updateAccount n f s).transport = s.transport := rfl
@[simp] theorem State.updateAccount_meter (n : Nat) (f : Account → Account) (s : State) : (State.updateAccount n f s).meter = s.meter := rfl
@[simp] theorem State.updateAccount_contexts (n : Nat) (f : Account → Account) (s : State) : (State.updateAccount n f s).contexts = s.contexts := rfl
@[simp] theorem State.updateAccount_shutter (n : Nat) (f : Account → Account) (s : State) : (State.updateAccount n f s).shutter = s.shutter := rfl
@[simp] theorem State.updateAccount_cycle (n : Nat) (f : Account → Account) (s : State) : (State.updateAccount n f s).cycle = s.cycle := rfl
@[simp] theorem State.updateAccount_composer (n : Nat) (f : Account → Account) (s : State) : (State.updateAccount n f s).composer = s.composer := rfl
@[simp] theorem State.updateAccount_printer (n : Nat) (f : Account → Account) (s : State) : (State.updateAccount n f s).printer = s.printer := rfl
@[simp] theorem State.updateAccount_waiting (n : Nat) (f : Account → Account) (s : State) : (State.updateAccount n f s).waiting = s.waiting := rfl
@[simp] theorem State.updateAccount_link (n : Nat) (f : Account → Account) (s : State) : (State.updateAccount n f s).link = s.link := rfl
@[simp] theorem State.updateAccount_outbox (n : Nat) (f : Account → Account) (s : State) : (State.updateAccount n f s).outbox = s.outbox := rfl
@[simp] theorem State.updateAccount_pending (n : Nat) (f : Account → Account) (s : State) : (State.updateAccount n f s).pending = s.pending := rfl

@[simp] theorem State.setStep_supply (r : ItemRef) (st : StepStatus) (s : State) : (State.setStep r st s).supply = s.supply := rfl
@[simp] theorem State.setStep_resetLow (r : ItemRef) (st : StepStatus) (s : State) : (State.setStep r st s).resetLow = s.resetLow := rfl
@[simp] theorem State.setStep_wipeDue (r : ItemRef) (st : StepStatus) (s : State) : (State.setStep r st s).wipeDue = s.wipeDue := rfl
@[simp] theorem State.setStep_lines (r : ItemRef) (st : StepStatus) (s : State) : (State.setStep r st s).lines = s.lines := rfl
@[simp] theorem State.setStep_transport (r : ItemRef) (st : StepStatus) (s : State) : (State.setStep r st s).transport = s.transport := rfl
@[simp] theorem State.setStep_meter (r : ItemRef) (st : StepStatus) (s : State) : (State.setStep r st s).meter = s.meter := rfl
@[simp] theorem State.setStep_contexts (r : ItemRef) (st : StepStatus) (s : State) : (State.setStep r st s).contexts = s.contexts := rfl
@[simp] theorem State.setStep_shutter (r : ItemRef) (st : StepStatus) (s : State) : (State.setStep r st s).shutter = s.shutter := rfl
@[simp] theorem State.setStep_cycle (r : ItemRef) (st : StepStatus) (s : State) : (State.setStep r st s).cycle = s.cycle := rfl
@[simp] theorem State.setStep_composer (r : ItemRef) (st : StepStatus) (s : State) : (State.setStep r st s).composer = s.composer := rfl
@[simp] theorem State.setStep_printer (r : ItemRef) (st : StepStatus) (s : State) : (State.setStep r st s).printer = s.printer := rfl
@[simp] theorem State.setStep_waiting (r : ItemRef) (st : StepStatus) (s : State) : (State.setStep r st s).waiting = s.waiting := rfl
@[simp] theorem State.setStep_link (r : ItemRef) (st : StepStatus) (s : State) : (State.setStep r st s).link = s.link := rfl
@[simp] theorem State.setStep_outbox (r : ItemRef) (st : StepStatus) (s : State) : (State.setStep r st s).outbox = s.outbox := rfl
@[simp] theorem State.setStep_pending (r : ItemRef) (st : StepStatus) (s : State) : (State.setStep r st s).pending = s.pending := rfl

@[simp] theorem State.clearMarker_supply (s : State) : (State.clearMarker s).supply = s.supply := rfl
@[simp] theorem State.clearMarker_resetLow (s : State) : (State.clearMarker s).resetLow = s.resetLow := rfl
@[simp] theorem State.clearMarker_wipeDue (s : State) : (State.clearMarker s).wipeDue = s.wipeDue := rfl
@[simp] theorem State.clearMarker_lines (s : State) : (State.clearMarker s).lines = s.lines := rfl
@[simp] theorem State.clearMarker_transport (s : State) : (State.clearMarker s).transport = s.transport := rfl
@[simp] theorem State.clearMarker_meter (s : State) : (State.clearMarker s).meter = s.meter := rfl
@[simp] theorem State.clearMarker_contexts (s : State) : (State.clearMarker s).contexts = s.contexts := rfl
@[simp] theorem State.clearMarker_shutter (s : State) : (State.clearMarker s).shutter = s.shutter := rfl
@[simp] theorem State.clearMarker_cycle (s : State) : (State.clearMarker s).cycle = s.cycle := rfl
@[simp] theorem State.clearMarker_composer (s : State) : (State.clearMarker s).composer = s.composer := rfl
@[simp] theorem State.clearMarker_printer (s : State) : (State.clearMarker s).printer = s.printer := rfl
@[simp] theorem State.clearMarker_waiting (s : State) : (State.clearMarker s).waiting = s.waiting := rfl
@[simp] theorem State.clearMarker_link (s : State) : (State.clearMarker s).link = s.link := rfl
@[simp] theorem State.clearMarker_outbox (s : State) : (State.clearMarker s).outbox = s.outbox := rfl
@[simp] theorem State.clearMarker_pending (s : State) : (State.clearMarker s).pending = s.pending := rfl

@[simp] theorem State.withdrawMetering_supply (s : State) : (State.withdrawMetering s).supply = s.supply := rfl
@[simp] theorem State.withdrawMetering_resetLow (s : State) : (State.withdrawMetering s).resetLow = s.resetLow := rfl
@[simp] theorem State.withdrawMetering_wipeDue (s : State) : (State.withdrawMetering s).wipeDue = s.wipeDue := rfl
@[simp] theorem State.withdrawMetering_lines (s : State) : (State.withdrawMetering s).lines = s.lines := rfl
@[simp] theorem State.withdrawMetering_store (s : State) : (State.withdrawMetering s).store = s.store := rfl
@[simp] theorem State.withdrawMetering_transport (s : State) : (State.withdrawMetering s).transport = s.transport := rfl
@[simp] theorem State.withdrawMetering_contexts (s : State) : (State.withdrawMetering s).contexts = s.contexts := rfl
@[simp] theorem State.withdrawMetering_shutter (s : State) : (State.withdrawMetering s).shutter = s.shutter := rfl
@[simp] theorem State.withdrawMetering_cycle (s : State) : (State.withdrawMetering s).cycle = s.cycle := rfl
@[simp] theorem State.withdrawMetering_composer (s : State) : (State.withdrawMetering s).composer = s.composer := rfl
@[simp] theorem State.withdrawMetering_printer (s : State) : (State.withdrawMetering s).printer = s.printer := rfl
@[simp] theorem State.withdrawMetering_waiting (s : State) : (State.withdrawMetering s).waiting = s.waiting := rfl
@[simp] theorem State.withdrawMetering_link (s : State) : (State.withdrawMetering s).link = s.link := rfl
@[simp] theorem State.withdrawMetering_outbox (s : State) : (State.withdrawMetering s).outbox = s.outbox := rfl
@[simp] theorem State.withdrawMetering_pending (s : State) : (State.withdrawMetering s).pending = s.pending := rfl

@[simp] theorem State.endAdvance_supply (s : State) : (State.endAdvance s).supply = s.supply := rfl
@[simp] theorem State.endAdvance_resetLow (s : State) : (State.endAdvance s).resetLow = s.resetLow := rfl
@[simp] theorem State.endAdvance_wipeDue (s : State) : (State.endAdvance s).wipeDue = s.wipeDue := rfl
@[simp] theorem State.endAdvance_lines (s : State) : (State.endAdvance s).lines = s.lines := rfl
@[simp] theorem State.endAdvance_store (s : State) : (State.endAdvance s).store = s.store := rfl
@[simp] theorem State.endAdvance_meter (s : State) : (State.endAdvance s).meter = s.meter := rfl
@[simp] theorem State.endAdvance_contexts (s : State) : (State.endAdvance s).contexts = s.contexts := rfl
@[simp] theorem State.endAdvance_shutter (s : State) : (State.endAdvance s).shutter = s.shutter := rfl
@[simp] theorem State.endAdvance_cycle (s : State) : (State.endAdvance s).cycle = s.cycle := rfl
@[simp] theorem State.endAdvance_composer (s : State) : (State.endAdvance s).composer = s.composer := rfl
@[simp] theorem State.endAdvance_printer (s : State) : (State.endAdvance s).printer = s.printer := rfl
@[simp] theorem State.endAdvance_waiting (s : State) : (State.endAdvance s).waiting = s.waiting := rfl
@[simp] theorem State.endAdvance_link (s : State) : (State.endAdvance s).link = s.link := rfl
@[simp] theorem State.endAdvance_outbox (s : State) : (State.endAdvance s).outbox = s.outbox := rfl
@[simp] theorem State.endAdvance_pending (s : State) : (State.endAdvance s).pending = s.pending := rfl

@[simp] theorem State.countDown_supply (s : State) : (State.countDown s).supply = s.supply := rfl
@[simp] theorem State.countDown_resetLow (s : State) : (State.countDown s).resetLow = s.resetLow := rfl
@[simp] theorem State.countDown_wipeDue (s : State) : (State.countDown s).wipeDue = s.wipeDue := rfl
@[simp] theorem State.countDown_lines (s : State) : (State.countDown s).lines = s.lines := rfl
@[simp] theorem State.countDown_store (s : State) : (State.countDown s).store = s.store := rfl
@[simp] theorem State.countDown_meter (s : State) : (State.countDown s).meter = s.meter := rfl
@[simp] theorem State.countDown_contexts (s : State) : (State.countDown s).contexts = s.contexts := rfl
@[simp] theorem State.countDown_shutter (s : State) : (State.countDown s).shutter = s.shutter := rfl
@[simp] theorem State.countDown_cycle (s : State) : (State.countDown s).cycle = s.cycle := rfl
@[simp] theorem State.countDown_composer (s : State) : (State.countDown s).composer = s.composer := rfl
@[simp] theorem State.countDown_printer (s : State) : (State.countDown s).printer = s.printer := rfl
@[simp] theorem State.countDown_waiting (s : State) : (State.countDown s).waiting = s.waiting := rfl
@[simp] theorem State.countDown_link (s : State) : (State.countDown s).link = s.link := rfl
@[simp] theorem State.countDown_outbox (s : State) : (State.countDown s).outbox = s.outbox := rfl
@[simp] theorem State.countDown_pending (s : State) : (State.countDown s).pending = s.pending := rfl

@[simp] theorem State.closeCommand_supply (s : State) : (State.closeCommand s).supply = s.supply := rfl
@[simp] theorem State.closeCommand_resetLow (s : State) : (State.closeCommand s).resetLow = s.resetLow := rfl
@[simp] theorem State.closeCommand_wipeDue (s : State) : (State.closeCommand s).wipeDue = s.wipeDue := rfl
@[simp] theorem State.closeCommand_lines (s : State) : (State.closeCommand s).lines = s.lines := rfl
@[simp] theorem State.closeCommand_store (s : State) : (State.closeCommand s).store = s.store := rfl
@[simp] theorem State.closeCommand_transport (s : State) : (State.closeCommand s).transport = s.transport := rfl
@[simp] theorem State.closeCommand_contexts (s : State) : (State.closeCommand s).contexts = s.contexts := rfl
@[simp] theorem State.closeCommand_cycle (s : State) : (State.closeCommand s).cycle = s.cycle := rfl
@[simp] theorem State.closeCommand_composer (s : State) : (State.closeCommand s).composer = s.composer := rfl
@[simp] theorem State.closeCommand_printer (s : State) : (State.closeCommand s).printer = s.printer := rfl
@[simp] theorem State.closeCommand_waiting (s : State) : (State.closeCommand s).waiting = s.waiting := rfl
@[simp] theorem State.closeCommand_link (s : State) : (State.closeCommand s).link = s.link := rfl
@[simp] theorem State.closeCommand_outbox (s : State) : (State.closeCommand s).outbox = s.outbox := rfl
@[simp] theorem State.closeCommand_pending (s : State) : (State.closeCommand s).pending = s.pending := rfl

@[simp] theorem State.shutterIdle_supply (m : Option Nat) (s : State) : (State.shutterIdle m s).supply = s.supply := rfl
@[simp] theorem State.shutterIdle_resetLow (m : Option Nat) (s : State) : (State.shutterIdle m s).resetLow = s.resetLow := rfl
@[simp] theorem State.shutterIdle_wipeDue (m : Option Nat) (s : State) : (State.shutterIdle m s).wipeDue = s.wipeDue := rfl
@[simp] theorem State.shutterIdle_lines (m : Option Nat) (s : State) : (State.shutterIdle m s).lines = s.lines := rfl
@[simp] theorem State.shutterIdle_store (m : Option Nat) (s : State) : (State.shutterIdle m s).store = s.store := rfl
@[simp] theorem State.shutterIdle_transport (m : Option Nat) (s : State) : (State.shutterIdle m s).transport = s.transport := rfl
@[simp] theorem State.shutterIdle_meter (m : Option Nat) (s : State) : (State.shutterIdle m s).meter = s.meter := rfl
@[simp] theorem State.shutterIdle_contexts (m : Option Nat) (s : State) : (State.shutterIdle m s).contexts = s.contexts := rfl
@[simp] theorem State.shutterIdle_cycle (m : Option Nat) (s : State) : (State.shutterIdle m s).cycle = s.cycle := rfl
@[simp] theorem State.shutterIdle_composer (m : Option Nat) (s : State) : (State.shutterIdle m s).composer = s.composer := rfl
@[simp] theorem State.shutterIdle_printer (m : Option Nat) (s : State) : (State.shutterIdle m s).printer = s.printer := rfl
@[simp] theorem State.shutterIdle_waiting (m : Option Nat) (s : State) : (State.shutterIdle m s).waiting = s.waiting := rfl
@[simp] theorem State.shutterIdle_link (m : Option Nat) (s : State) : (State.shutterIdle m s).link = s.link := rfl
@[simp] theorem State.shutterIdle_outbox (m : Option Nat) (s : State) : (State.shutterIdle m s).outbox = s.outbox := rfl
@[simp] theorem State.shutterIdle_pending (m : Option Nat) (s : State) : (State.shutterIdle m s).pending = s.pending := rfl

@[simp] theorem State.appendEntry_supply (a o : Nat) (d : Option ItemCharge) (m : Nat) (s : State) : (State.appendEntry a o d m s).supply = s.supply := rfl
@[simp] theorem State.appendEntry_resetLow (a o : Nat) (d : Option ItemCharge) (m : Nat) (s : State) : (State.appendEntry a o d m s).resetLow = s.resetLow := rfl
@[simp] theorem State.appendEntry_wipeDue (a o : Nat) (d : Option ItemCharge) (m : Nat) (s : State) : (State.appendEntry a o d m s).wipeDue = s.wipeDue := rfl
@[simp] theorem State.appendEntry_lines (a o : Nat) (d : Option ItemCharge) (m : Nat) (s : State) : (State.appendEntry a o d m s).lines = s.lines := rfl
@[simp] theorem State.appendEntry_transport (a o : Nat) (d : Option ItemCharge) (m : Nat) (s : State) : (State.appendEntry a o d m s).transport = s.transport := rfl
@[simp] theorem State.appendEntry_meter (a o : Nat) (d : Option ItemCharge) (m : Nat) (s : State) : (State.appendEntry a o d m s).meter = s.meter := rfl
@[simp] theorem State.appendEntry_contexts (a o : Nat) (d : Option ItemCharge) (m : Nat) (s : State) : (State.appendEntry a o d m s).contexts = s.contexts := rfl
@[simp] theorem State.appendEntry_shutter (a o : Nat) (d : Option ItemCharge) (m : Nat) (s : State) : (State.appendEntry a o d m s).shutter = s.shutter := rfl
@[simp] theorem State.appendEntry_cycle (a o : Nat) (d : Option ItemCharge) (m : Nat) (s : State) : (State.appendEntry a o d m s).cycle = s.cycle := rfl
@[simp] theorem State.appendEntry_composer (a o : Nat) (d : Option ItemCharge) (m : Nat) (s : State) : (State.appendEntry a o d m s).composer = s.composer := rfl
@[simp] theorem State.appendEntry_printer (a o : Nat) (d : Option ItemCharge) (m : Nat) (s : State) : (State.appendEntry a o d m s).printer = s.printer := rfl
@[simp] theorem State.appendEntry_waiting (a o : Nat) (d : Option ItemCharge) (m : Nat) (s : State) : (State.appendEntry a o d m s).waiting = s.waiting := rfl
@[simp] theorem State.appendEntry_link (a o : Nat) (d : Option ItemCharge) (m : Nat) (s : State) : (State.appendEntry a o d m s).link = s.link := rfl
@[simp] theorem State.appendEntry_outbox (a o : Nat) (d : Option ItemCharge) (m : Nat) (s : State) : (State.appendEntry a o d m s).outbox = s.outbox := rfl
@[simp] theorem State.appendEntry_pending (a o : Nat) (d : Option ItemCharge) (m : Nat) (s : State) : (State.appendEntry a o d m s).pending = s.pending := rfl

@[simp] theorem State.markCharged_supply (o i : Nat) (s : State) : (State.markCharged o i s).supply = s.supply := rfl
@[simp] theorem State.markCharged_resetLow (o i : Nat) (s : State) : (State.markCharged o i s).resetLow = s.resetLow := rfl
@[simp] theorem State.markCharged_wipeDue (o i : Nat) (s : State) : (State.markCharged o i s).wipeDue = s.wipeDue := rfl
@[simp] theorem State.markCharged_lines (o i : Nat) (s : State) : (State.markCharged o i s).lines = s.lines := rfl
@[simp] theorem State.markCharged_transport (o i : Nat) (s : State) : (State.markCharged o i s).transport = s.transport := rfl
@[simp] theorem State.markCharged_meter (o i : Nat) (s : State) : (State.markCharged o i s).meter = s.meter := rfl
@[simp] theorem State.markCharged_contexts (o i : Nat) (s : State) : (State.markCharged o i s).contexts = s.contexts := rfl
@[simp] theorem State.markCharged_shutter (o i : Nat) (s : State) : (State.markCharged o i s).shutter = s.shutter := rfl
@[simp] theorem State.markCharged_cycle (o i : Nat) (s : State) : (State.markCharged o i s).cycle = s.cycle := rfl
@[simp] theorem State.markCharged_composer (o i : Nat) (s : State) : (State.markCharged o i s).composer = s.composer := rfl
@[simp] theorem State.markCharged_printer (o i : Nat) (s : State) : (State.markCharged o i s).printer = s.printer := rfl
@[simp] theorem State.markCharged_waiting (o i : Nat) (s : State) : (State.markCharged o i s).waiting = s.waiting := rfl
@[simp] theorem State.markCharged_link (o i : Nat) (s : State) : (State.markCharged o i s).link = s.link := rfl
@[simp] theorem State.markCharged_outbox (o i : Nat) (s : State) : (State.markCharged o i s).outbox = s.outbox := rfl
@[simp] theorem State.markCharged_pending (o i : Nat) (s : State) : (State.markCharged o i s).pending = s.pending := rfl

@[simp] theorem State.removeOrder_supply (n : Nat) (s : State) : (State.removeOrder n s).supply = s.supply := rfl
@[simp] theorem State.removeOrder_resetLow (n : Nat) (s : State) : (State.removeOrder n s).resetLow = s.resetLow := rfl
@[simp] theorem State.removeOrder_wipeDue (n : Nat) (s : State) : (State.removeOrder n s).wipeDue = s.wipeDue := rfl
@[simp] theorem State.removeOrder_lines (n : Nat) (s : State) : (State.removeOrder n s).lines = s.lines := rfl
@[simp] theorem State.removeOrder_transport (n : Nat) (s : State) : (State.removeOrder n s).transport = s.transport := rfl
@[simp] theorem State.removeOrder_meter (n : Nat) (s : State) : (State.removeOrder n s).meter = s.meter := rfl
@[simp] theorem State.removeOrder_contexts (n : Nat) (s : State) : (State.removeOrder n s).contexts = s.contexts := rfl
@[simp] theorem State.removeOrder_shutter (n : Nat) (s : State) : (State.removeOrder n s).shutter = s.shutter := rfl
@[simp] theorem State.removeOrder_cycle (n : Nat) (s : State) : (State.removeOrder n s).cycle = s.cycle := rfl
@[simp] theorem State.removeOrder_composer (n : Nat) (s : State) : (State.removeOrder n s).composer = s.composer := rfl
@[simp] theorem State.removeOrder_printer (n : Nat) (s : State) : (State.removeOrder n s).printer = s.printer := rfl
@[simp] theorem State.removeOrder_waiting (n : Nat) (s : State) : (State.removeOrder n s).waiting = s.waiting := rfl
@[simp] theorem State.removeOrder_link (n : Nat) (s : State) : (State.removeOrder n s).link = s.link := rfl
@[simp] theorem State.removeOrder_outbox (n : Nat) (s : State) : (State.removeOrder n s).outbox = s.outbox := rfl
@[simp] theorem State.removeOrder_pending (n : Nat) (s : State) : (State.removeOrder n s).pending = s.pending := rfl

@[simp] theorem State.releaseOrders_supply (n : Nat) (s : State) : (State.releaseOrders n s).supply = s.supply := rfl
@[simp] theorem State.releaseOrders_resetLow (n : Nat) (s : State) : (State.releaseOrders n s).resetLow = s.resetLow := rfl
@[simp] theorem State.releaseOrders_wipeDue (n : Nat) (s : State) : (State.releaseOrders n s).wipeDue = s.wipeDue := rfl
@[simp] theorem State.releaseOrders_lines (n : Nat) (s : State) : (State.releaseOrders n s).lines = s.lines := rfl
@[simp] theorem State.releaseOrders_transport (n : Nat) (s : State) : (State.releaseOrders n s).transport = s.transport := rfl
@[simp] theorem State.releaseOrders_meter (n : Nat) (s : State) : (State.releaseOrders n s).meter = s.meter := rfl
@[simp] theorem State.releaseOrders_contexts (n : Nat) (s : State) : (State.releaseOrders n s).contexts = s.contexts := rfl
@[simp] theorem State.releaseOrders_shutter (n : Nat) (s : State) : (State.releaseOrders n s).shutter = s.shutter := rfl
@[simp] theorem State.releaseOrders_cycle (n : Nat) (s : State) : (State.releaseOrders n s).cycle = s.cycle := rfl
@[simp] theorem State.releaseOrders_composer (n : Nat) (s : State) : (State.releaseOrders n s).composer = s.composer := rfl
@[simp] theorem State.releaseOrders_printer (n : Nat) (s : State) : (State.releaseOrders n s).printer = s.printer := rfl
@[simp] theorem State.releaseOrders_waiting (n : Nat) (s : State) : (State.releaseOrders n s).waiting = s.waiting := rfl
@[simp] theorem State.releaseOrders_link (n : Nat) (s : State) : (State.releaseOrders n s).link = s.link := rfl
@[simp] theorem State.releaseOrders_outbox (n : Nat) (s : State) : (State.releaseOrders n s).outbox = s.outbox := rfl
@[simp] theorem State.releaseOrders_pending (n : Nat) (s : State) : (State.releaseOrders n s).pending = s.pending := rfl

@[simp] theorem State.setLabels_supply (r : Nat) (l : List Nat) (st : LabelStatus) (s : State) : (State.setLabels r l st s).supply = s.supply := rfl
@[simp] theorem State.setLabels_resetLow (r : Nat) (l : List Nat) (st : LabelStatus) (s : State) : (State.setLabels r l st s).resetLow = s.resetLow := rfl
@[simp] theorem State.setLabels_wipeDue (r : Nat) (l : List Nat) (st : LabelStatus) (s : State) : (State.setLabels r l st s).wipeDue = s.wipeDue := rfl
@[simp] theorem State.setLabels_lines (r : Nat) (l : List Nat) (st : LabelStatus) (s : State) : (State.setLabels r l st s).lines = s.lines := rfl
@[simp] theorem State.setLabels_transport (r : Nat) (l : List Nat) (st : LabelStatus) (s : State) : (State.setLabels r l st s).transport = s.transport := rfl
@[simp] theorem State.setLabels_meter (r : Nat) (l : List Nat) (st : LabelStatus) (s : State) : (State.setLabels r l st s).meter = s.meter := rfl
@[simp] theorem State.setLabels_contexts (r : Nat) (l : List Nat) (st : LabelStatus) (s : State) : (State.setLabels r l st s).contexts = s.contexts := rfl
@[simp] theorem State.setLabels_shutter (r : Nat) (l : List Nat) (st : LabelStatus) (s : State) : (State.setLabels r l st s).shutter = s.shutter := rfl
@[simp] theorem State.setLabels_cycle (r : Nat) (l : List Nat) (st : LabelStatus) (s : State) : (State.setLabels r l st s).cycle = s.cycle := rfl
@[simp] theorem State.setLabels_composer (r : Nat) (l : List Nat) (st : LabelStatus) (s : State) : (State.setLabels r l st s).composer = s.composer := rfl
@[simp] theorem State.setLabels_printer (r : Nat) (l : List Nat) (st : LabelStatus) (s : State) : (State.setLabels r l st s).printer = s.printer := rfl
@[simp] theorem State.setLabels_waiting (r : Nat) (l : List Nat) (st : LabelStatus) (s : State) : (State.setLabels r l st s).waiting = s.waiting := rfl
@[simp] theorem State.setLabels_link (r : Nat) (l : List Nat) (st : LabelStatus) (s : State) : (State.setLabels r l st s).link = s.link := rfl
@[simp] theorem State.setLabels_outbox (r : Nat) (l : List Nat) (st : LabelStatus) (s : State) : (State.setLabels r l st s).outbox = s.outbox := rfl
@[simp] theorem State.setLabels_pending (r : Nat) (l : List Nat) (st : LabelStatus) (s : State) : (State.setLabels r l st s).pending = s.pending := rfl

@[simp] theorem State.unqueue_supply (l : List (Nat × Nat)) (s : State) : (State.unqueue l s).supply = s.supply := rfl
@[simp] theorem State.unqueue_resetLow (l : List (Nat × Nat)) (s : State) : (State.unqueue l s).resetLow = s.resetLow := rfl
@[simp] theorem State.unqueue_wipeDue (l : List (Nat × Nat)) (s : State) : (State.unqueue l s).wipeDue = s.wipeDue := rfl
@[simp] theorem State.unqueue_lines (l : List (Nat × Nat)) (s : State) : (State.unqueue l s).lines = s.lines := rfl
@[simp] theorem State.unqueue_transport (l : List (Nat × Nat)) (s : State) : (State.unqueue l s).transport = s.transport := rfl
@[simp] theorem State.unqueue_meter (l : List (Nat × Nat)) (s : State) : (State.unqueue l s).meter = s.meter := rfl
@[simp] theorem State.unqueue_contexts (l : List (Nat × Nat)) (s : State) : (State.unqueue l s).contexts = s.contexts := rfl
@[simp] theorem State.unqueue_shutter (l : List (Nat × Nat)) (s : State) : (State.unqueue l s).shutter = s.shutter := rfl
@[simp] theorem State.unqueue_cycle (l : List (Nat × Nat)) (s : State) : (State.unqueue l s).cycle = s.cycle := rfl
@[simp] theorem State.unqueue_composer (l : List (Nat × Nat)) (s : State) : (State.unqueue l s).composer = s.composer := rfl
@[simp] theorem State.unqueue_printer (l : List (Nat × Nat)) (s : State) : (State.unqueue l s).printer = s.printer := rfl
@[simp] theorem State.unqueue_waiting (l : List (Nat × Nat)) (s : State) : (State.unqueue l s).waiting = s.waiting := rfl
@[simp] theorem State.unqueue_link (l : List (Nat × Nat)) (s : State) : (State.unqueue l s).link = s.link := rfl
@[simp] theorem State.unqueue_outbox (l : List (Nat × Nat)) (s : State) : (State.unqueue l s).outbox = s.outbox := rfl
@[simp] theorem State.unqueue_pending (l : List (Nat × Nat)) (s : State) : (State.unqueue l s).pending = s.pending := rfl

@[simp] theorem State.endStream_supply (s : State) : (State.endStream s).supply = s.supply := rfl
@[simp] theorem State.endStream_resetLow (s : State) : (State.endStream s).resetLow = s.resetLow := rfl
@[simp] theorem State.endStream_wipeDue (s : State) : (State.endStream s).wipeDue = s.wipeDue := rfl
@[simp] theorem State.endStream_lines (s : State) : (State.endStream s).lines = s.lines := rfl
@[simp] theorem State.endStream_store (s : State) : (State.endStream s).store = s.store := rfl
@[simp] theorem State.endStream_transport (s : State) : (State.endStream s).transport = s.transport := rfl
@[simp] theorem State.endStream_meter (s : State) : (State.endStream s).meter = s.meter := rfl
@[simp] theorem State.endStream_contexts (s : State) : (State.endStream s).contexts = s.contexts := rfl
@[simp] theorem State.endStream_shutter (s : State) : (State.endStream s).shutter = s.shutter := rfl
@[simp] theorem State.endStream_cycle (s : State) : (State.endStream s).cycle = s.cycle := rfl
@[simp] theorem State.endStream_printer (s : State) : (State.endStream s).printer = s.printer := rfl
@[simp] theorem State.endStream_waiting (s : State) : (State.endStream s).waiting = s.waiting := rfl
@[simp] theorem State.endStream_link (s : State) : (State.endStream s).link = s.link := rfl
@[simp] theorem State.endStream_outbox (s : State) : (State.endStream s).outbox = s.outbox := rfl
@[simp] theorem State.endStream_pending (s : State) : (State.endStream s).pending = s.pending := rfl

@[simp] theorem State.setMarks_supply (l : List Mark) (s : State) : (State.setMarks l s).supply = s.supply := rfl
@[simp] theorem State.setMarks_resetLow (l : List Mark) (s : State) : (State.setMarks l s).resetLow = s.resetLow := rfl
@[simp] theorem State.setMarks_wipeDue (l : List Mark) (s : State) : (State.setMarks l s).wipeDue = s.wipeDue := rfl
@[simp] theorem State.setMarks_lines (l : List Mark) (s : State) : (State.setMarks l s).lines = s.lines := rfl
@[simp] theorem State.setMarks_store (l : List Mark) (s : State) : (State.setMarks l s).store = s.store := rfl
@[simp] theorem State.setMarks_meter (l : List Mark) (s : State) : (State.setMarks l s).meter = s.meter := rfl
@[simp] theorem State.setMarks_contexts (l : List Mark) (s : State) : (State.setMarks l s).contexts = s.contexts := rfl
@[simp] theorem State.setMarks_shutter (l : List Mark) (s : State) : (State.setMarks l s).shutter = s.shutter := rfl
@[simp] theorem State.setMarks_cycle (l : List Mark) (s : State) : (State.setMarks l s).cycle = s.cycle := rfl
@[simp] theorem State.setMarks_composer (l : List Mark) (s : State) : (State.setMarks l s).composer = s.composer := rfl
@[simp] theorem State.setMarks_printer (l : List Mark) (s : State) : (State.setMarks l s).printer = s.printer := rfl
@[simp] theorem State.setMarks_waiting (l : List Mark) (s : State) : (State.setMarks l s).waiting = s.waiting := rfl
@[simp] theorem State.setMarks_link (l : List Mark) (s : State) : (State.setMarks l s).link = s.link := rfl
@[simp] theorem State.setMarks_outbox (l : List Mark) (s : State) : (State.setMarks l s).outbox = s.outbox := rfl
@[simp] theorem State.setMarks_pending (l : List Mark) (s : State) : (State.setMarks l s).pending = s.pending := rfl

@[simp] theorem State.setZones_supply (l : List Zone) (s : State) : (State.setZones l s).supply = s.supply := rfl
@[simp] theorem State.setZones_resetLow (l : List Zone) (s : State) : (State.setZones l s).resetLow = s.resetLow := rfl
@[simp] theorem State.setZones_wipeDue (l : List Zone) (s : State) : (State.setZones l s).wipeDue = s.wipeDue := rfl
@[simp] theorem State.setZones_lines (l : List Zone) (s : State) : (State.setZones l s).lines = s.lines := rfl
@[simp] theorem State.setZones_transport (l : List Zone) (s : State) : (State.setZones l s).transport = s.transport := rfl
@[simp] theorem State.setZones_meter (l : List Zone) (s : State) : (State.setZones l s).meter = s.meter := rfl
@[simp] theorem State.setZones_contexts (l : List Zone) (s : State) : (State.setZones l s).contexts = s.contexts := rfl
@[simp] theorem State.setZones_shutter (l : List Zone) (s : State) : (State.setZones l s).shutter = s.shutter := rfl
@[simp] theorem State.setZones_cycle (l : List Zone) (s : State) : (State.setZones l s).cycle = s.cycle := rfl
@[simp] theorem State.setZones_composer (l : List Zone) (s : State) : (State.setZones l s).composer = s.composer := rfl
@[simp] theorem State.setZones_printer (l : List Zone) (s : State) : (State.setZones l s).printer = s.printer := rfl
@[simp] theorem State.setZones_waiting (l : List Zone) (s : State) : (State.setZones l s).waiting = s.waiting := rfl
@[simp] theorem State.setZones_link (l : List Zone) (s : State) : (State.setZones l s).link = s.link := rfl
@[simp] theorem State.setZones_outbox (l : List Zone) (s : State) : (State.setZones l s).outbox = s.outbox := rfl
@[simp] theorem State.setZones_pending (l : List Zone) (s : State) : (State.setZones l s).pending = s.pending := rfl

@[simp] theorem State.setConf_supply (f : Conf → Conf) (s : State) : (State.setConf f s).supply = s.supply := rfl
@[simp] theorem State.setConf_resetLow (f : Conf → Conf) (s : State) : (State.setConf f s).resetLow = s.resetLow := rfl
@[simp] theorem State.setConf_wipeDue (f : Conf → Conf) (s : State) : (State.setConf f s).wipeDue = s.wipeDue := rfl
@[simp] theorem State.setConf_lines (f : Conf → Conf) (s : State) : (State.setConf f s).lines = s.lines := rfl
@[simp] theorem State.setConf_transport (f : Conf → Conf) (s : State) : (State.setConf f s).transport = s.transport := rfl
@[simp] theorem State.setConf_meter (f : Conf → Conf) (s : State) : (State.setConf f s).meter = s.meter := rfl
@[simp] theorem State.setConf_contexts (f : Conf → Conf) (s : State) : (State.setConf f s).contexts = s.contexts := rfl
@[simp] theorem State.setConf_shutter (f : Conf → Conf) (s : State) : (State.setConf f s).shutter = s.shutter := rfl
@[simp] theorem State.setConf_cycle (f : Conf → Conf) (s : State) : (State.setConf f s).cycle = s.cycle := rfl
@[simp] theorem State.setConf_composer (f : Conf → Conf) (s : State) : (State.setConf f s).composer = s.composer := rfl
@[simp] theorem State.setConf_printer (f : Conf → Conf) (s : State) : (State.setConf f s).printer = s.printer := rfl
@[simp] theorem State.setConf_waiting (f : Conf → Conf) (s : State) : (State.setConf f s).waiting = s.waiting := rfl
@[simp] theorem State.setConf_link (f : Conf → Conf) (s : State) : (State.setConf f s).link = s.link := rfl
@[simp] theorem State.setConf_outbox (f : Conf → Conf) (s : State) : (State.setConf f s).outbox = s.outbox := rfl
@[simp] theorem State.setConf_pending (f : Conf → Conf) (s : State) : (State.setConf f s).pending = s.pending := rfl

@[simp] theorem State.setIndex_supply (i : IndexCheck) (s : State) : (State.setIndex i s).supply = s.supply := rfl
@[simp] theorem State.setIndex_resetLow (i : IndexCheck) (s : State) : (State.setIndex i s).resetLow = s.resetLow := rfl
@[simp] theorem State.setIndex_wipeDue (i : IndexCheck) (s : State) : (State.setIndex i s).wipeDue = s.wipeDue := rfl
@[simp] theorem State.setIndex_lines (i : IndexCheck) (s : State) : (State.setIndex i s).lines = s.lines := rfl
@[simp] theorem State.setIndex_store (i : IndexCheck) (s : State) : (State.setIndex i s).store = s.store := rfl
@[simp] theorem State.setIndex_meter (i : IndexCheck) (s : State) : (State.setIndex i s).meter = s.meter := rfl
@[simp] theorem State.setIndex_contexts (i : IndexCheck) (s : State) : (State.setIndex i s).contexts = s.contexts := rfl
@[simp] theorem State.setIndex_shutter (i : IndexCheck) (s : State) : (State.setIndex i s).shutter = s.shutter := rfl
@[simp] theorem State.setIndex_cycle (i : IndexCheck) (s : State) : (State.setIndex i s).cycle = s.cycle := rfl
@[simp] theorem State.setIndex_composer (i : IndexCheck) (s : State) : (State.setIndex i s).composer = s.composer := rfl
@[simp] theorem State.setIndex_printer (i : IndexCheck) (s : State) : (State.setIndex i s).printer = s.printer := rfl
@[simp] theorem State.setIndex_waiting (i : IndexCheck) (s : State) : (State.setIndex i s).waiting = s.waiting := rfl
@[simp] theorem State.setIndex_link (i : IndexCheck) (s : State) : (State.setIndex i s).link = s.link := rfl
@[simp] theorem State.setIndex_outbox (i : IndexCheck) (s : State) : (State.setIndex i s).outbox = s.outbox := rfl
@[simp] theorem State.setIndex_pending (i : IndexCheck) (s : State) : (State.setIndex i s).pending = s.pending := rfl

@[simp] theorem State.setSlot_supply (n : Nat) (x : Option OffsetSlot) (s : State) : (State.setSlot n x s).supply = s.supply := rfl
@[simp] theorem State.setSlot_resetLow (n : Nat) (x : Option OffsetSlot) (s : State) : (State.setSlot n x s).resetLow = s.resetLow := rfl
@[simp] theorem State.setSlot_wipeDue (n : Nat) (x : Option OffsetSlot) (s : State) : (State.setSlot n x s).wipeDue = s.wipeDue := rfl
@[simp] theorem State.setSlot_lines (n : Nat) (x : Option OffsetSlot) (s : State) : (State.setSlot n x s).lines = s.lines := rfl
@[simp] theorem State.setSlot_transport (n : Nat) (x : Option OffsetSlot) (s : State) : (State.setSlot n x s).transport = s.transport := rfl
@[simp] theorem State.setSlot_meter (n : Nat) (x : Option OffsetSlot) (s : State) : (State.setSlot n x s).meter = s.meter := rfl
@[simp] theorem State.setSlot_contexts (n : Nat) (x : Option OffsetSlot) (s : State) : (State.setSlot n x s).contexts = s.contexts := rfl
@[simp] theorem State.setSlot_shutter (n : Nat) (x : Option OffsetSlot) (s : State) : (State.setSlot n x s).shutter = s.shutter := rfl
@[simp] theorem State.setSlot_cycle (n : Nat) (x : Option OffsetSlot) (s : State) : (State.setSlot n x s).cycle = s.cycle := rfl
@[simp] theorem State.setSlot_composer (n : Nat) (x : Option OffsetSlot) (s : State) : (State.setSlot n x s).composer = s.composer := rfl
@[simp] theorem State.setSlot_printer (n : Nat) (x : Option OffsetSlot) (s : State) : (State.setSlot n x s).printer = s.printer := rfl
@[simp] theorem State.setSlot_waiting (n : Nat) (x : Option OffsetSlot) (s : State) : (State.setSlot n x s).waiting = s.waiting := rfl
@[simp] theorem State.setSlot_link (n : Nat) (x : Option OffsetSlot) (s : State) : (State.setSlot n x s).link = s.link := rfl
@[simp] theorem State.setSlot_outbox (n : Nat) (x : Option OffsetSlot) (s : State) : (State.setSlot n x s).outbox = s.outbox := rfl
@[simp] theorem State.setSlot_pending (n : Nat) (x : Option OffsetSlot) (s : State) : (State.setSlot n x s).pending = s.pending := rfl

@[simp] theorem State.setGain_supply (ch : Fin 4) (g : Nat) (s : State) : (State.setGain ch g s).supply = s.supply := rfl
@[simp] theorem State.setGain_resetLow (ch : Fin 4) (g : Nat) (s : State) : (State.setGain ch g s).resetLow = s.resetLow := rfl
@[simp] theorem State.setGain_wipeDue (ch : Fin 4) (g : Nat) (s : State) : (State.setGain ch g s).wipeDue = s.wipeDue := rfl
@[simp] theorem State.setGain_lines (ch : Fin 4) (g : Nat) (s : State) : (State.setGain ch g s).lines = s.lines := rfl
@[simp] theorem State.setGain_transport (ch : Fin 4) (g : Nat) (s : State) : (State.setGain ch g s).transport = s.transport := rfl
@[simp] theorem State.setGain_meter (ch : Fin 4) (g : Nat) (s : State) : (State.setGain ch g s).meter = s.meter := rfl
@[simp] theorem State.setGain_contexts (ch : Fin 4) (g : Nat) (s : State) : (State.setGain ch g s).contexts = s.contexts := rfl
@[simp] theorem State.setGain_shutter (ch : Fin 4) (g : Nat) (s : State) : (State.setGain ch g s).shutter = s.shutter := rfl
@[simp] theorem State.setGain_cycle (ch : Fin 4) (g : Nat) (s : State) : (State.setGain ch g s).cycle = s.cycle := rfl
@[simp] theorem State.setGain_composer (ch : Fin 4) (g : Nat) (s : State) : (State.setGain ch g s).composer = s.composer := rfl
@[simp] theorem State.setGain_printer (ch : Fin 4) (g : Nat) (s : State) : (State.setGain ch g s).printer = s.printer := rfl
@[simp] theorem State.setGain_waiting (ch : Fin 4) (g : Nat) (s : State) : (State.setGain ch g s).waiting = s.waiting := rfl
@[simp] theorem State.setGain_link (ch : Fin 4) (g : Nat) (s : State) : (State.setGain ch g s).link = s.link := rfl
@[simp] theorem State.setGain_outbox (ch : Fin 4) (g : Nat) (s : State) : (State.setGain ch g s).outbox = s.outbox := rfl
@[simp] theorem State.setGain_pending (ch : Fin 4) (g : Nat) (s : State) : (State.setGain ch g s).pending = s.pending := rfl

@[simp] theorem State.startCalibration_supply (ch : Fin 4) (r : Nat) (s : State) : (State.startCalibration ch r s).supply = s.supply := rfl
@[simp] theorem State.startCalibration_resetLow (ch : Fin 4) (r : Nat) (s : State) : (State.startCalibration ch r s).resetLow = s.resetLow := rfl
@[simp] theorem State.startCalibration_wipeDue (ch : Fin 4) (r : Nat) (s : State) : (State.startCalibration ch r s).wipeDue = s.wipeDue := rfl
@[simp] theorem State.startCalibration_lines (ch : Fin 4) (r : Nat) (s : State) : (State.startCalibration ch r s).lines = s.lines := rfl
@[simp] theorem State.startCalibration_store (ch : Fin 4) (r : Nat) (s : State) : (State.startCalibration ch r s).store = s.store := rfl
@[simp] theorem State.startCalibration_transport (ch : Fin 4) (r : Nat) (s : State) : (State.startCalibration ch r s).transport = s.transport := rfl
@[simp] theorem State.startCalibration_contexts (ch : Fin 4) (r : Nat) (s : State) : (State.startCalibration ch r s).contexts = s.contexts := rfl
@[simp] theorem State.startCalibration_shutter (ch : Fin 4) (r : Nat) (s : State) : (State.startCalibration ch r s).shutter = s.shutter := rfl
@[simp] theorem State.startCalibration_cycle (ch : Fin 4) (r : Nat) (s : State) : (State.startCalibration ch r s).cycle = s.cycle := rfl
@[simp] theorem State.startCalibration_composer (ch : Fin 4) (r : Nat) (s : State) : (State.startCalibration ch r s).composer = s.composer := rfl
@[simp] theorem State.startCalibration_printer (ch : Fin 4) (r : Nat) (s : State) : (State.startCalibration ch r s).printer = s.printer := rfl
@[simp] theorem State.startCalibration_waiting (ch : Fin 4) (r : Nat) (s : State) : (State.startCalibration ch r s).waiting = s.waiting := rfl
@[simp] theorem State.startCalibration_link (ch : Fin 4) (r : Nat) (s : State) : (State.startCalibration ch r s).link = s.link := rfl
@[simp] theorem State.startCalibration_outbox (ch : Fin 4) (r : Nat) (s : State) : (State.startCalibration ch r s).outbox = s.outbox := rfl
@[simp] theorem State.startCalibration_pending (ch : Fin 4) (r : Nat) (s : State) : (State.startCalibration ch r s).pending = s.pending := rfl

@[simp] theorem State.setWindow_supply (n : Nat) (w : Window) (s : State) : (State.setWindow n w s).supply = s.supply := rfl
@[simp] theorem State.setWindow_resetLow (n : Nat) (w : Window) (s : State) : (State.setWindow n w s).resetLow = s.resetLow := rfl
@[simp] theorem State.setWindow_wipeDue (n : Nat) (w : Window) (s : State) : (State.setWindow n w s).wipeDue = s.wipeDue := rfl
@[simp] theorem State.setWindow_lines (n : Nat) (w : Window) (s : State) : (State.setWindow n w s).lines = s.lines := rfl
@[simp] theorem State.setWindow_transport (n : Nat) (w : Window) (s : State) : (State.setWindow n w s).transport = s.transport := rfl
@[simp] theorem State.setWindow_contexts (n : Nat) (w : Window) (s : State) : (State.setWindow n w s).contexts = s.contexts := rfl
@[simp] theorem State.setWindow_shutter (n : Nat) (w : Window) (s : State) : (State.setWindow n w s).shutter = s.shutter := rfl
@[simp] theorem State.setWindow_cycle (n : Nat) (w : Window) (s : State) : (State.setWindow n w s).cycle = s.cycle := rfl
@[simp] theorem State.setWindow_composer (n : Nat) (w : Window) (s : State) : (State.setWindow n w s).composer = s.composer := rfl
@[simp] theorem State.setWindow_printer (n : Nat) (w : Window) (s : State) : (State.setWindow n w s).printer = s.printer := rfl
@[simp] theorem State.setWindow_waiting (n : Nat) (w : Window) (s : State) : (State.setWindow n w s).waiting = s.waiting := rfl
@[simp] theorem State.setWindow_link (n : Nat) (w : Window) (s : State) : (State.setWindow n w s).link = s.link := rfl
@[simp] theorem State.setWindow_outbox (n : Nat) (w : Window) (s : State) : (State.setWindow n w s).outbox = s.outbox := rfl
@[simp] theorem State.setWindow_pending (n : Nat) (w : Window) (s : State) : (State.setWindow n w s).pending = s.pending := rfl

@[simp] theorem State.setFilm_supply (n : Nat) (r : FilmRecord) (s : State) : (State.setFilm n r s).supply = s.supply := rfl
@[simp] theorem State.setFilm_resetLow (n : Nat) (r : FilmRecord) (s : State) : (State.setFilm n r s).resetLow = s.resetLow := rfl
@[simp] theorem State.setFilm_wipeDue (n : Nat) (r : FilmRecord) (s : State) : (State.setFilm n r s).wipeDue = s.wipeDue := rfl
@[simp] theorem State.setFilm_lines (n : Nat) (r : FilmRecord) (s : State) : (State.setFilm n r s).lines = s.lines := rfl
@[simp] theorem State.setFilm_transport (n : Nat) (r : FilmRecord) (s : State) : (State.setFilm n r s).transport = s.transport := rfl
@[simp] theorem State.setFilm_meter (n : Nat) (r : FilmRecord) (s : State) : (State.setFilm n r s).meter = s.meter := rfl
@[simp] theorem State.setFilm_contexts (n : Nat) (r : FilmRecord) (s : State) : (State.setFilm n r s).contexts = s.contexts := rfl
@[simp] theorem State.setFilm_shutter (n : Nat) (r : FilmRecord) (s : State) : (State.setFilm n r s).shutter = s.shutter := rfl
@[simp] theorem State.setFilm_cycle (n : Nat) (r : FilmRecord) (s : State) : (State.setFilm n r s).cycle = s.cycle := rfl
@[simp] theorem State.setFilm_composer (n : Nat) (r : FilmRecord) (s : State) : (State.setFilm n r s).composer = s.composer := rfl
@[simp] theorem State.setFilm_printer (n : Nat) (r : FilmRecord) (s : State) : (State.setFilm n r s).printer = s.printer := rfl
@[simp] theorem State.setFilm_waiting (n : Nat) (r : FilmRecord) (s : State) : (State.setFilm n r s).waiting = s.waiting := rfl
@[simp] theorem State.setFilm_link (n : Nat) (r : FilmRecord) (s : State) : (State.setFilm n r s).link = s.link := rfl
@[simp] theorem State.setFilm_outbox (n : Nat) (r : FilmRecord) (s : State) : (State.setFilm n r s).outbox = s.outbox := rfl
@[simp] theorem State.setFilm_pending (n : Nat) (r : FilmRecord) (s : State) : (State.setFilm n r s).pending = s.pending := rfl

@[simp] theorem State.setPlan_supply (n : Nat) (l : List Int) (s : State) : (State.setPlan n l s).supply = s.supply := rfl
@[simp] theorem State.setPlan_resetLow (n : Nat) (l : List Int) (s : State) : (State.setPlan n l s).resetLow = s.resetLow := rfl
@[simp] theorem State.setPlan_wipeDue (n : Nat) (l : List Int) (s : State) : (State.setPlan n l s).wipeDue = s.wipeDue := rfl
@[simp] theorem State.setPlan_lines (n : Nat) (l : List Int) (s : State) : (State.setPlan n l s).lines = s.lines := rfl
@[simp] theorem State.setPlan_transport (n : Nat) (l : List Int) (s : State) : (State.setPlan n l s).transport = s.transport := rfl
@[simp] theorem State.setPlan_meter (n : Nat) (l : List Int) (s : State) : (State.setPlan n l s).meter = s.meter := rfl
@[simp] theorem State.setPlan_contexts (n : Nat) (l : List Int) (s : State) : (State.setPlan n l s).contexts = s.contexts := rfl
@[simp] theorem State.setPlan_shutter (n : Nat) (l : List Int) (s : State) : (State.setPlan n l s).shutter = s.shutter := rfl
@[simp] theorem State.setPlan_cycle (n : Nat) (l : List Int) (s : State) : (State.setPlan n l s).cycle = s.cycle := rfl
@[simp] theorem State.setPlan_composer (n : Nat) (l : List Int) (s : State) : (State.setPlan n l s).composer = s.composer := rfl
@[simp] theorem State.setPlan_printer (n : Nat) (l : List Int) (s : State) : (State.setPlan n l s).printer = s.printer := rfl
@[simp] theorem State.setPlan_waiting (n : Nat) (l : List Int) (s : State) : (State.setPlan n l s).waiting = s.waiting := rfl
@[simp] theorem State.setPlan_link (n : Nat) (l : List Int) (s : State) : (State.setPlan n l s).link = s.link := rfl
@[simp] theorem State.setPlan_outbox (n : Nat) (l : List Int) (s : State) : (State.setPlan n l s).outbox = s.outbox := rfl
@[simp] theorem State.setPlan_pending (n : Nat) (l : List Int) (s : State) : (State.setPlan n l s).pending = s.pending := rfl

@[simp] theorem State.addOrder_supply (o : Order) (s : State) : (State.addOrder o s).supply = s.supply := rfl
@[simp] theorem State.addOrder_resetLow (o : Order) (s : State) : (State.addOrder o s).resetLow = s.resetLow := rfl
@[simp] theorem State.addOrder_wipeDue (o : Order) (s : State) : (State.addOrder o s).wipeDue = s.wipeDue := rfl
@[simp] theorem State.addOrder_lines (o : Order) (s : State) : (State.addOrder o s).lines = s.lines := rfl
@[simp] theorem State.addOrder_transport (o : Order) (s : State) : (State.addOrder o s).transport = s.transport := rfl
@[simp] theorem State.addOrder_meter (o : Order) (s : State) : (State.addOrder o s).meter = s.meter := rfl
@[simp] theorem State.addOrder_contexts (o : Order) (s : State) : (State.addOrder o s).contexts = s.contexts := rfl
@[simp] theorem State.addOrder_shutter (o : Order) (s : State) : (State.addOrder o s).shutter = s.shutter := rfl
@[simp] theorem State.addOrder_cycle (o : Order) (s : State) : (State.addOrder o s).cycle = s.cycle := rfl
@[simp] theorem State.addOrder_composer (o : Order) (s : State) : (State.addOrder o s).composer = s.composer := rfl
@[simp] theorem State.addOrder_printer (o : Order) (s : State) : (State.addOrder o s).printer = s.printer := rfl
@[simp] theorem State.addOrder_waiting (o : Order) (s : State) : (State.addOrder o s).waiting = s.waiting := rfl
@[simp] theorem State.addOrder_link (o : Order) (s : State) : (State.addOrder o s).link = s.link := rfl
@[simp] theorem State.addOrder_outbox (o : Order) (s : State) : (State.addOrder o s).outbox = s.outbox := rfl
@[simp] theorem State.addOrder_pending (o : Order) (s : State) : (State.addOrder o s).pending = s.pending := rfl

@[simp] theorem State.postOrder_supply (o : Order) (s : State) : (State.postOrder o s).supply = s.supply := rfl
@[simp] theorem State.postOrder_resetLow (o : Order) (s : State) : (State.postOrder o s).resetLow = s.resetLow := rfl
@[simp] theorem State.postOrder_wipeDue (o : Order) (s : State) : (State.postOrder o s).wipeDue = s.wipeDue := rfl
@[simp] theorem State.postOrder_lines (o : Order) (s : State) : (State.postOrder o s).lines = s.lines := rfl
@[simp] theorem State.postOrder_transport (o : Order) (s : State) : (State.postOrder o s).transport = s.transport := rfl
@[simp] theorem State.postOrder_meter (o : Order) (s : State) : (State.postOrder o s).meter = s.meter := rfl
@[simp] theorem State.postOrder_contexts (o : Order) (s : State) : (State.postOrder o s).contexts = s.contexts := rfl
@[simp] theorem State.postOrder_shutter (o : Order) (s : State) : (State.postOrder o s).shutter = s.shutter := rfl
@[simp] theorem State.postOrder_cycle (o : Order) (s : State) : (State.postOrder o s).cycle = s.cycle := rfl
@[simp] theorem State.postOrder_composer (o : Order) (s : State) : (State.postOrder o s).composer = s.composer := rfl
@[simp] theorem State.postOrder_printer (o : Order) (s : State) : (State.postOrder o s).printer = s.printer := rfl
@[simp] theorem State.postOrder_waiting (o : Order) (s : State) : (State.postOrder o s).waiting = s.waiting := rfl
@[simp] theorem State.postOrder_link (o : Order) (s : State) : (State.postOrder o s).link = s.link := rfl
@[simp] theorem State.postOrder_outbox (o : Order) (s : State) : (State.postOrder o s).outbox = s.outbox := rfl
@[simp] theorem State.postOrder_pending (o : Order) (s : State) : (State.postOrder o s).pending = s.pending := rfl

@[simp] theorem State.setOrderState_supply (n : Nat) (st : OrderState) (s : State) : (State.setOrderState n st s).supply = s.supply := rfl
@[simp] theorem State.setOrderState_resetLow (n : Nat) (st : OrderState) (s : State) : (State.setOrderState n st s).resetLow = s.resetLow := rfl
@[simp] theorem State.setOrderState_wipeDue (n : Nat) (st : OrderState) (s : State) : (State.setOrderState n st s).wipeDue = s.wipeDue := rfl
@[simp] theorem State.setOrderState_lines (n : Nat) (st : OrderState) (s : State) : (State.setOrderState n st s).lines = s.lines := rfl
@[simp] theorem State.setOrderState_transport (n : Nat) (st : OrderState) (s : State) : (State.setOrderState n st s).transport = s.transport := rfl
@[simp] theorem State.setOrderState_meter (n : Nat) (st : OrderState) (s : State) : (State.setOrderState n st s).meter = s.meter := rfl
@[simp] theorem State.setOrderState_contexts (n : Nat) (st : OrderState) (s : State) : (State.setOrderState n st s).contexts = s.contexts := rfl
@[simp] theorem State.setOrderState_shutter (n : Nat) (st : OrderState) (s : State) : (State.setOrderState n st s).shutter = s.shutter := rfl
@[simp] theorem State.setOrderState_cycle (n : Nat) (st : OrderState) (s : State) : (State.setOrderState n st s).cycle = s.cycle := rfl
@[simp] theorem State.setOrderState_composer (n : Nat) (st : OrderState) (s : State) : (State.setOrderState n st s).composer = s.composer := rfl
@[simp] theorem State.setOrderState_printer (n : Nat) (st : OrderState) (s : State) : (State.setOrderState n st s).printer = s.printer := rfl
@[simp] theorem State.setOrderState_waiting (n : Nat) (st : OrderState) (s : State) : (State.setOrderState n st s).waiting = s.waiting := rfl
@[simp] theorem State.setOrderState_link (n : Nat) (st : OrderState) (s : State) : (State.setOrderState n st s).link = s.link := rfl
@[simp] theorem State.setOrderState_outbox (n : Nat) (st : OrderState) (s : State) : (State.setOrderState n st s).outbox = s.outbox := rfl
@[simp] theorem State.setOrderState_pending (n : Nat) (st : OrderState) (s : State) : (State.setOrderState n st s).pending = s.pending := rfl

@[simp] theorem State.dropRoll_supply (n : Nat) (s : State) : (State.dropRoll n s).supply = s.supply := rfl
@[simp] theorem State.dropRoll_resetLow (n : Nat) (s : State) : (State.dropRoll n s).resetLow = s.resetLow := rfl
@[simp] theorem State.dropRoll_wipeDue (n : Nat) (s : State) : (State.dropRoll n s).wipeDue = s.wipeDue := rfl
@[simp] theorem State.dropRoll_lines (n : Nat) (s : State) : (State.dropRoll n s).lines = s.lines := rfl
@[simp] theorem State.dropRoll_transport (n : Nat) (s : State) : (State.dropRoll n s).transport = s.transport := rfl
@[simp] theorem State.dropRoll_meter (n : Nat) (s : State) : (State.dropRoll n s).meter = s.meter := rfl
@[simp] theorem State.dropRoll_contexts (n : Nat) (s : State) : (State.dropRoll n s).contexts = s.contexts := rfl
@[simp] theorem State.dropRoll_shutter (n : Nat) (s : State) : (State.dropRoll n s).shutter = s.shutter := rfl
@[simp] theorem State.dropRoll_cycle (n : Nat) (s : State) : (State.dropRoll n s).cycle = s.cycle := rfl
@[simp] theorem State.dropRoll_composer (n : Nat) (s : State) : (State.dropRoll n s).composer = s.composer := rfl
@[simp] theorem State.dropRoll_printer (n : Nat) (s : State) : (State.dropRoll n s).printer = s.printer := rfl
@[simp] theorem State.dropRoll_waiting (n : Nat) (s : State) : (State.dropRoll n s).waiting = s.waiting := rfl
@[simp] theorem State.dropRoll_link (n : Nat) (s : State) : (State.dropRoll n s).link = s.link := rfl
@[simp] theorem State.dropRoll_outbox (n : Nat) (s : State) : (State.dropRoll n s).outbox = s.outbox := rfl
@[simp] theorem State.dropRoll_pending (n : Nat) (s : State) : (State.dropRoll n s).pending = s.pending := rfl

@[simp] theorem State.loadRoll_supply (r : Roll) (s : State) : (State.loadRoll r s).supply = s.supply := rfl
@[simp] theorem State.loadRoll_resetLow (r : Roll) (s : State) : (State.loadRoll r s).resetLow = s.resetLow := rfl
@[simp] theorem State.loadRoll_wipeDue (r : Roll) (s : State) : (State.loadRoll r s).wipeDue = s.wipeDue := rfl
@[simp] theorem State.loadRoll_lines (r : Roll) (s : State) : (State.loadRoll r s).lines = s.lines := rfl
@[simp] theorem State.loadRoll_meter (r : Roll) (s : State) : (State.loadRoll r s).meter = s.meter := rfl
@[simp] theorem State.loadRoll_contexts (r : Roll) (s : State) : (State.loadRoll r s).contexts = s.contexts := rfl
@[simp] theorem State.loadRoll_shutter (r : Roll) (s : State) : (State.loadRoll r s).shutter = s.shutter := rfl
@[simp] theorem State.loadRoll_cycle (r : Roll) (s : State) : (State.loadRoll r s).cycle = s.cycle := rfl
@[simp] theorem State.loadRoll_composer (r : Roll) (s : State) : (State.loadRoll r s).composer = s.composer := rfl
@[simp] theorem State.loadRoll_printer (r : Roll) (s : State) : (State.loadRoll r s).printer = s.printer := rfl
@[simp] theorem State.loadRoll_waiting (r : Roll) (s : State) : (State.loadRoll r s).waiting = s.waiting := rfl
@[simp] theorem State.loadRoll_link (r : Roll) (s : State) : (State.loadRoll r s).link = s.link := rfl
@[simp] theorem State.loadRoll_outbox (r : Roll) (s : State) : (State.loadRoll r s).outbox = s.outbox := rfl
@[simp] theorem State.loadRoll_pending (r : Roll) (s : State) : (State.loadRoll r s).pending = s.pending := rfl

@[simp] theorem State.lite_supply (l : Light) (on : Bool) (s : State) : (State.lite l on s).supply = s.supply := rfl
@[simp] theorem State.lite_resetLow (l : Light) (on : Bool) (s : State) : (State.lite l on s).resetLow = s.resetLow := rfl
@[simp] theorem State.lite_wipeDue (l : Light) (on : Bool) (s : State) : (State.lite l on s).wipeDue = s.wipeDue := rfl
@[simp] theorem State.lite_lines (l : Light) (on : Bool) (s : State) : (State.lite l on s).lines = s.lines := rfl
@[simp] theorem State.lite_store (l : Light) (on : Bool) (s : State) : (State.lite l on s).store = s.store := rfl
@[simp] theorem State.lite_transport (l : Light) (on : Bool) (s : State) : (State.lite l on s).transport = s.transport := rfl
@[simp] theorem State.lite_meter (l : Light) (on : Bool) (s : State) : (State.lite l on s).meter = s.meter := rfl
@[simp] theorem State.lite_contexts (l : Light) (on : Bool) (s : State) : (State.lite l on s).contexts = s.contexts := rfl
@[simp] theorem State.lite_shutter (l : Light) (on : Bool) (s : State) : (State.lite l on s).shutter = s.shutter := rfl
@[simp] theorem State.lite_composer (l : Light) (on : Bool) (s : State) : (State.lite l on s).composer = s.composer := rfl
@[simp] theorem State.lite_printer (l : Light) (on : Bool) (s : State) : (State.lite l on s).printer = s.printer := rfl
@[simp] theorem State.lite_waiting (l : Light) (on : Bool) (s : State) : (State.lite l on s).waiting = s.waiting := rfl
@[simp] theorem State.lite_link (l : Light) (on : Bool) (s : State) : (State.lite l on s).link = s.link := rfl
@[simp] theorem State.lite_outbox (l : Light) (on : Bool) (s : State) : (State.lite l on s).outbox = s.outbox := rfl
@[simp] theorem State.lite_pending (l : Light) (on : Bool) (s : State) : (State.lite l on s).pending = s.pending := rfl

@[simp] theorem State.setPause_supply (s : State) : (State.setPause s).supply = s.supply := rfl
@[simp] theorem State.setPause_resetLow (s : State) : (State.setPause s).resetLow = s.resetLow := rfl
@[simp] theorem State.setPause_wipeDue (s : State) : (State.setPause s).wipeDue = s.wipeDue := rfl
@[simp] theorem State.setPause_lines (s : State) : (State.setPause s).lines = s.lines := rfl
@[simp] theorem State.setPause_store (s : State) : (State.setPause s).store = s.store := rfl
@[simp] theorem State.setPause_transport (s : State) : (State.setPause s).transport = s.transport := rfl
@[simp] theorem State.setPause_meter (s : State) : (State.setPause s).meter = s.meter := rfl
@[simp] theorem State.setPause_contexts (s : State) : (State.setPause s).contexts = s.contexts := rfl
@[simp] theorem State.setPause_shutter (s : State) : (State.setPause s).shutter = s.shutter := rfl
@[simp] theorem State.setPause_composer (s : State) : (State.setPause s).composer = s.composer := rfl
@[simp] theorem State.setPause_printer (s : State) : (State.setPause s).printer = s.printer := rfl
@[simp] theorem State.setPause_waiting (s : State) : (State.setPause s).waiting = s.waiting := rfl
@[simp] theorem State.setPause_link (s : State) : (State.setPause s).link = s.link := rfl
@[simp] theorem State.setPause_outbox (s : State) : (State.setPause s).outbox = s.outbox := rfl
@[simp] theorem State.setPause_pending (s : State) : (State.setPause s).pending = s.pending := rfl

@[simp] theorem State.enterDark_supply (c : CycleState) (s : State) : (State.enterDark c s).supply = s.supply := rfl
@[simp] theorem State.enterDark_resetLow (c : CycleState) (s : State) : (State.enterDark c s).resetLow = s.resetLow := rfl
@[simp] theorem State.enterDark_wipeDue (c : CycleState) (s : State) : (State.enterDark c s).wipeDue = s.wipeDue := rfl
@[simp] theorem State.enterDark_lines (c : CycleState) (s : State) : (State.enterDark c s).lines = s.lines := rfl
@[simp] theorem State.enterDark_store (c : CycleState) (s : State) : (State.enterDark c s).store = s.store := rfl
@[simp] theorem State.enterDark_transport (c : CycleState) (s : State) : (State.enterDark c s).transport = s.transport := rfl
@[simp] theorem State.enterDark_meter (c : CycleState) (s : State) : (State.enterDark c s).meter = s.meter := rfl
@[simp] theorem State.enterDark_contexts (c : CycleState) (s : State) : (State.enterDark c s).contexts = s.contexts := rfl
@[simp] theorem State.enterDark_shutter (c : CycleState) (s : State) : (State.enterDark c s).shutter = s.shutter := rfl
@[simp] theorem State.enterDark_composer (c : CycleState) (s : State) : (State.enterDark c s).composer = s.composer := rfl
@[simp] theorem State.enterDark_printer (c : CycleState) (s : State) : (State.enterDark c s).printer = s.printer := rfl
@[simp] theorem State.enterDark_waiting (c : CycleState) (s : State) : (State.enterDark c s).waiting = s.waiting := rfl
@[simp] theorem State.enterDark_link (c : CycleState) (s : State) : (State.enterDark c s).link = s.link := rfl
@[simp] theorem State.enterDark_outbox (c : CycleState) (s : State) : (State.enterDark c s).outbox = s.outbox := rfl
@[simp] theorem State.enterDark_pending (c : CycleState) (s : State) : (State.enterDark c s).pending = s.pending := rfl

@[simp] theorem State.enterStopped_supply (s : State) : (State.enterStopped s).supply = s.supply := rfl
@[simp] theorem State.enterStopped_resetLow (s : State) : (State.enterStopped s).resetLow = s.resetLow := rfl
@[simp] theorem State.enterStopped_wipeDue (s : State) : (State.enterStopped s).wipeDue = s.wipeDue := rfl
@[simp] theorem State.enterStopped_lines (s : State) : (State.enterStopped s).lines = s.lines := rfl
@[simp] theorem State.enterStopped_store (s : State) : (State.enterStopped s).store = s.store := rfl
@[simp] theorem State.enterStopped_transport (s : State) : (State.enterStopped s).transport = s.transport := rfl
@[simp] theorem State.enterStopped_meter (s : State) : (State.enterStopped s).meter = s.meter := rfl
@[simp] theorem State.enterStopped_contexts (s : State) : (State.enterStopped s).contexts = s.contexts := rfl
@[simp] theorem State.enterStopped_shutter (s : State) : (State.enterStopped s).shutter = s.shutter := rfl
@[simp] theorem State.enterStopped_composer (s : State) : (State.enterStopped s).composer = s.composer := rfl
@[simp] theorem State.enterStopped_printer (s : State) : (State.enterStopped s).printer = s.printer := rfl
@[simp] theorem State.enterStopped_waiting (s : State) : (State.enterStopped s).waiting = s.waiting := rfl
@[simp] theorem State.enterStopped_link (s : State) : (State.enterStopped s).link = s.link := rfl
@[simp] theorem State.enterStopped_outbox (s : State) : (State.enterStopped s).outbox = s.outbox := rfl
@[simp] theorem State.enterStopped_pending (s : State) : (State.enterStopped s).pending = s.pending := rfl

@[simp] theorem State.enterWaiting_supply (c : WaitCause) (s : State) : (State.enterWaiting c s).supply = s.supply := rfl
@[simp] theorem State.enterWaiting_resetLow (c : WaitCause) (s : State) : (State.enterWaiting c s).resetLow = s.resetLow := rfl
@[simp] theorem State.enterWaiting_wipeDue (c : WaitCause) (s : State) : (State.enterWaiting c s).wipeDue = s.wipeDue := rfl
@[simp] theorem State.enterWaiting_lines (c : WaitCause) (s : State) : (State.enterWaiting c s).lines = s.lines := rfl
@[simp] theorem State.enterWaiting_store (c : WaitCause) (s : State) : (State.enterWaiting c s).store = s.store := rfl
@[simp] theorem State.enterWaiting_transport (c : WaitCause) (s : State) : (State.enterWaiting c s).transport = s.transport := rfl
@[simp] theorem State.enterWaiting_meter (c : WaitCause) (s : State) : (State.enterWaiting c s).meter = s.meter := rfl
@[simp] theorem State.enterWaiting_contexts (c : WaitCause) (s : State) : (State.enterWaiting c s).contexts = s.contexts := rfl
@[simp] theorem State.enterWaiting_shutter (c : WaitCause) (s : State) : (State.enterWaiting c s).shutter = s.shutter := rfl
@[simp] theorem State.enterWaiting_composer (c : WaitCause) (s : State) : (State.enterWaiting c s).composer = s.composer := rfl
@[simp] theorem State.enterWaiting_printer (c : WaitCause) (s : State) : (State.enterWaiting c s).printer = s.printer := rfl
@[simp] theorem State.enterWaiting_waiting (c : WaitCause) (s : State) : (State.enterWaiting c s).waiting = s.waiting := rfl
@[simp] theorem State.enterWaiting_link (c : WaitCause) (s : State) : (State.enterWaiting c s).link = s.link := rfl
@[simp] theorem State.enterWaiting_outbox (c : WaitCause) (s : State) : (State.enterWaiting c s).outbox = s.outbox := rfl
@[simp] theorem State.enterWaiting_pending (c : WaitCause) (s : State) : (State.enterWaiting c s).pending = s.pending := rfl

@[simp] theorem State.enterWarmup_supply (l : Light) (s : State) : (State.enterWarmup l s).supply = s.supply := rfl
@[simp] theorem State.enterWarmup_resetLow (l : Light) (s : State) : (State.enterWarmup l s).resetLow = s.resetLow := rfl
@[simp] theorem State.enterWarmup_wipeDue (l : Light) (s : State) : (State.enterWarmup l s).wipeDue = s.wipeDue := rfl
@[simp] theorem State.enterWarmup_lines (l : Light) (s : State) : (State.enterWarmup l s).lines = s.lines := rfl
@[simp] theorem State.enterWarmup_store (l : Light) (s : State) : (State.enterWarmup l s).store = s.store := rfl
@[simp] theorem State.enterWarmup_transport (l : Light) (s : State) : (State.enterWarmup l s).transport = s.transport := rfl
@[simp] theorem State.enterWarmup_meter (l : Light) (s : State) : (State.enterWarmup l s).meter = s.meter := rfl
@[simp] theorem State.enterWarmup_contexts (l : Light) (s : State) : (State.enterWarmup l s).contexts = s.contexts := rfl
@[simp] theorem State.enterWarmup_shutter (l : Light) (s : State) : (State.enterWarmup l s).shutter = s.shutter := rfl
@[simp] theorem State.enterWarmup_composer (l : Light) (s : State) : (State.enterWarmup l s).composer = s.composer := rfl
@[simp] theorem State.enterWarmup_printer (l : Light) (s : State) : (State.enterWarmup l s).printer = s.printer := rfl
@[simp] theorem State.enterWarmup_waiting (l : Light) (s : State) : (State.enterWarmup l s).waiting = s.waiting := rfl
@[simp] theorem State.enterWarmup_link (l : Light) (s : State) : (State.enterWarmup l s).link = s.link := rfl
@[simp] theorem State.enterWarmup_outbox (l : Light) (s : State) : (State.enterWarmup l s).outbox = s.outbox := rfl
@[simp] theorem State.enterWarmup_pending (l : Light) (s : State) : (State.enterWarmup l s).pending = s.pending := rfl

@[simp] theorem State.setGlyphs_supply (t : GlyphTable) (s : State) : (State.setGlyphs t s).supply = s.supply := rfl
@[simp] theorem State.setGlyphs_resetLow (t : GlyphTable) (s : State) : (State.setGlyphs t s).resetLow = s.resetLow := rfl
@[simp] theorem State.setGlyphs_wipeDue (t : GlyphTable) (s : State) : (State.setGlyphs t s).wipeDue = s.wipeDue := rfl
@[simp] theorem State.setGlyphs_lines (t : GlyphTable) (s : State) : (State.setGlyphs t s).lines = s.lines := rfl
@[simp] theorem State.setGlyphs_transport (t : GlyphTable) (s : State) : (State.setGlyphs t s).transport = s.transport := rfl
@[simp] theorem State.setGlyphs_meter (t : GlyphTable) (s : State) : (State.setGlyphs t s).meter = s.meter := rfl
@[simp] theorem State.setGlyphs_contexts (t : GlyphTable) (s : State) : (State.setGlyphs t s).contexts = s.contexts := rfl
@[simp] theorem State.setGlyphs_shutter (t : GlyphTable) (s : State) : (State.setGlyphs t s).shutter = s.shutter := rfl
@[simp] theorem State.setGlyphs_cycle (t : GlyphTable) (s : State) : (State.setGlyphs t s).cycle = s.cycle := rfl
@[simp] theorem State.setGlyphs_composer (t : GlyphTable) (s : State) : (State.setGlyphs t s).composer = s.composer := rfl
@[simp] theorem State.setGlyphs_printer (t : GlyphTable) (s : State) : (State.setGlyphs t s).printer = s.printer := rfl
@[simp] theorem State.setGlyphs_waiting (t : GlyphTable) (s : State) : (State.setGlyphs t s).waiting = s.waiting := rfl
@[simp] theorem State.setGlyphs_link (t : GlyphTable) (s : State) : (State.setGlyphs t s).link = s.link := rfl
@[simp] theorem State.setGlyphs_outbox (t : GlyphTable) (s : State) : (State.setGlyphs t s).outbox = s.outbox := rfl
@[simp] theorem State.setGlyphs_pending (t : GlyphTable) (s : State) : (State.setGlyphs t s).pending = s.pending := rfl

@[simp] theorem State.setEmblem_supply (e : EmblemRaster) (s : State) : (State.setEmblem e s).supply = s.supply := rfl
@[simp] theorem State.setEmblem_resetLow (e : EmblemRaster) (s : State) : (State.setEmblem e s).resetLow = s.resetLow := rfl
@[simp] theorem State.setEmblem_wipeDue (e : EmblemRaster) (s : State) : (State.setEmblem e s).wipeDue = s.wipeDue := rfl
@[simp] theorem State.setEmblem_lines (e : EmblemRaster) (s : State) : (State.setEmblem e s).lines = s.lines := rfl
@[simp] theorem State.setEmblem_transport (e : EmblemRaster) (s : State) : (State.setEmblem e s).transport = s.transport := rfl
@[simp] theorem State.setEmblem_meter (e : EmblemRaster) (s : State) : (State.setEmblem e s).meter = s.meter := rfl
@[simp] theorem State.setEmblem_contexts (e : EmblemRaster) (s : State) : (State.setEmblem e s).contexts = s.contexts := rfl
@[simp] theorem State.setEmblem_shutter (e : EmblemRaster) (s : State) : (State.setEmblem e s).shutter = s.shutter := rfl
@[simp] theorem State.setEmblem_cycle (e : EmblemRaster) (s : State) : (State.setEmblem e s).cycle = s.cycle := rfl
@[simp] theorem State.setEmblem_composer (e : EmblemRaster) (s : State) : (State.setEmblem e s).composer = s.composer := rfl
@[simp] theorem State.setEmblem_printer (e : EmblemRaster) (s : State) : (State.setEmblem e s).printer = s.printer := rfl
@[simp] theorem State.setEmblem_waiting (e : EmblemRaster) (s : State) : (State.setEmblem e s).waiting = s.waiting := rfl
@[simp] theorem State.setEmblem_link (e : EmblemRaster) (s : State) : (State.setEmblem e s).link = s.link := rfl
@[simp] theorem State.setEmblem_outbox (e : EmblemRaster) (s : State) : (State.setEmblem e s).outbox = s.outbox := rfl
@[simp] theorem State.setEmblem_pending (e : EmblemRaster) (s : State) : (State.setEmblem e s).pending = s.pending := rfl

@[simp] theorem State.setStream_supply (i j : Nat) (s : State) : (State.setStream i j s).supply = s.supply := rfl
@[simp] theorem State.setStream_resetLow (i j : Nat) (s : State) : (State.setStream i j s).resetLow = s.resetLow := rfl
@[simp] theorem State.setStream_wipeDue (i j : Nat) (s : State) : (State.setStream i j s).wipeDue = s.wipeDue := rfl
@[simp] theorem State.setStream_lines (i j : Nat) (s : State) : (State.setStream i j s).lines = s.lines := rfl
@[simp] theorem State.setStream_store (i j : Nat) (s : State) : (State.setStream i j s).store = s.store := rfl
@[simp] theorem State.setStream_transport (i j : Nat) (s : State) : (State.setStream i j s).transport = s.transport := rfl
@[simp] theorem State.setStream_meter (i j : Nat) (s : State) : (State.setStream i j s).meter = s.meter := rfl
@[simp] theorem State.setStream_contexts (i j : Nat) (s : State) : (State.setStream i j s).contexts = s.contexts := rfl
@[simp] theorem State.setStream_shutter (i j : Nat) (s : State) : (State.setStream i j s).shutter = s.shutter := rfl
@[simp] theorem State.setStream_cycle (i j : Nat) (s : State) : (State.setStream i j s).cycle = s.cycle := rfl
@[simp] theorem State.setStream_printer (i j : Nat) (s : State) : (State.setStream i j s).printer = s.printer := rfl
@[simp] theorem State.setStream_waiting (i j : Nat) (s : State) : (State.setStream i j s).waiting = s.waiting := rfl
@[simp] theorem State.setStream_link (i j : Nat) (s : State) : (State.setStream i j s).link = s.link := rfl
@[simp] theorem State.setStream_outbox (i j : Nat) (s : State) : (State.setStream i j s).outbox = s.outbox := rfl
@[simp] theorem State.setStream_pending (i j : Nat) (s : State) : (State.setStream i j s).pending = s.pending := rfl

@[simp] theorem State.setWindowRect_supply (x0 x1 y0 y1 : Nat) (s : State) : (State.setWindowRect x0 x1 y0 y1 s).supply = s.supply := rfl
@[simp] theorem State.setWindowRect_resetLow (x0 x1 y0 y1 : Nat) (s : State) : (State.setWindowRect x0 x1 y0 y1 s).resetLow = s.resetLow := rfl
@[simp] theorem State.setWindowRect_wipeDue (x0 x1 y0 y1 : Nat) (s : State) : (State.setWindowRect x0 x1 y0 y1 s).wipeDue = s.wipeDue := rfl
@[simp] theorem State.setWindowRect_lines (x0 x1 y0 y1 : Nat) (s : State) : (State.setWindowRect x0 x1 y0 y1 s).lines = s.lines := rfl
@[simp] theorem State.setWindowRect_store (x0 x1 y0 y1 : Nat) (s : State) : (State.setWindowRect x0 x1 y0 y1 s).store = s.store := rfl
@[simp] theorem State.setWindowRect_transport (x0 x1 y0 y1 : Nat) (s : State) : (State.setWindowRect x0 x1 y0 y1 s).transport = s.transport := rfl
@[simp] theorem State.setWindowRect_meter (x0 x1 y0 y1 : Nat) (s : State) : (State.setWindowRect x0 x1 y0 y1 s).meter = s.meter := rfl
@[simp] theorem State.setWindowRect_contexts (x0 x1 y0 y1 : Nat) (s : State) : (State.setWindowRect x0 x1 y0 y1 s).contexts = s.contexts := rfl
@[simp] theorem State.setWindowRect_shutter (x0 x1 y0 y1 : Nat) (s : State) : (State.setWindowRect x0 x1 y0 y1 s).shutter = s.shutter := rfl
@[simp] theorem State.setWindowRect_cycle (x0 x1 y0 y1 : Nat) (s : State) : (State.setWindowRect x0 x1 y0 y1 s).cycle = s.cycle := rfl
@[simp] theorem State.setWindowRect_printer (x0 x1 y0 y1 : Nat) (s : State) : (State.setWindowRect x0 x1 y0 y1 s).printer = s.printer := rfl
@[simp] theorem State.setWindowRect_waiting (x0 x1 y0 y1 : Nat) (s : State) : (State.setWindowRect x0 x1 y0 y1 s).waiting = s.waiting := rfl
@[simp] theorem State.setWindowRect_link (x0 x1 y0 y1 : Nat) (s : State) : (State.setWindowRect x0 x1 y0 y1 s).link = s.link := rfl
@[simp] theorem State.setWindowRect_outbox (x0 x1 y0 y1 : Nat) (s : State) : (State.setWindowRect x0 x1 y0 y1 s).outbox = s.outbox := rfl
@[simp] theorem State.setWindowRect_pending (x0 x1 y0 y1 : Nat) (s : State) : (State.setWindowRect x0 x1 y0 y1 s).pending = s.pending := rfl

@[simp] theorem State.enqueue_supply (r : Nat) (l : List Nat) (s : State) : (State.enqueue r l s).supply = s.supply := rfl
@[simp] theorem State.enqueue_resetLow (r : Nat) (l : List Nat) (s : State) : (State.enqueue r l s).resetLow = s.resetLow := rfl
@[simp] theorem State.enqueue_wipeDue (r : Nat) (l : List Nat) (s : State) : (State.enqueue r l s).wipeDue = s.wipeDue := rfl
@[simp] theorem State.enqueue_lines (r : Nat) (l : List Nat) (s : State) : (State.enqueue r l s).lines = s.lines := rfl
@[simp] theorem State.enqueue_transport (r : Nat) (l : List Nat) (s : State) : (State.enqueue r l s).transport = s.transport := rfl
@[simp] theorem State.enqueue_meter (r : Nat) (l : List Nat) (s : State) : (State.enqueue r l s).meter = s.meter := rfl
@[simp] theorem State.enqueue_contexts (r : Nat) (l : List Nat) (s : State) : (State.enqueue r l s).contexts = s.contexts := rfl
@[simp] theorem State.enqueue_shutter (r : Nat) (l : List Nat) (s : State) : (State.enqueue r l s).shutter = s.shutter := rfl
@[simp] theorem State.enqueue_cycle (r : Nat) (l : List Nat) (s : State) : (State.enqueue r l s).cycle = s.cycle := rfl
@[simp] theorem State.enqueue_composer (r : Nat) (l : List Nat) (s : State) : (State.enqueue r l s).composer = s.composer := rfl
@[simp] theorem State.enqueue_waiting (r : Nat) (l : List Nat) (s : State) : (State.enqueue r l s).waiting = s.waiting := rfl
@[simp] theorem State.enqueue_link (r : Nat) (l : List Nat) (s : State) : (State.enqueue r l s).link = s.link := rfl
@[simp] theorem State.enqueue_outbox (r : Nat) (l : List Nat) (s : State) : (State.enqueue r l s).outbox = s.outbox := rfl
@[simp] theorem State.enqueue_pending (r : Nat) (l : List Nat) (s : State) : (State.enqueue r l s).pending = s.pending := rfl

@[simp] theorem State.setDensity_supply (d : Nat) (s : State) : (State.setDensity d s).supply = s.supply := rfl
@[simp] theorem State.setDensity_resetLow (d : Nat) (s : State) : (State.setDensity d s).resetLow = s.resetLow := rfl
@[simp] theorem State.setDensity_wipeDue (d : Nat) (s : State) : (State.setDensity d s).wipeDue = s.wipeDue := rfl
@[simp] theorem State.setDensity_lines (d : Nat) (s : State) : (State.setDensity d s).lines = s.lines := rfl
@[simp] theorem State.setDensity_transport (d : Nat) (s : State) : (State.setDensity d s).transport = s.transport := rfl
@[simp] theorem State.setDensity_meter (d : Nat) (s : State) : (State.setDensity d s).meter = s.meter := rfl
@[simp] theorem State.setDensity_contexts (d : Nat) (s : State) : (State.setDensity d s).contexts = s.contexts := rfl
@[simp] theorem State.setDensity_shutter (d : Nat) (s : State) : (State.setDensity d s).shutter = s.shutter := rfl
@[simp] theorem State.setDensity_cycle (d : Nat) (s : State) : (State.setDensity d s).cycle = s.cycle := rfl
@[simp] theorem State.setDensity_composer (d : Nat) (s : State) : (State.setDensity d s).composer = s.composer := rfl
@[simp] theorem State.setDensity_printer (d : Nat) (s : State) : (State.setDensity d s).printer = s.printer := rfl
@[simp] theorem State.setDensity_waiting (d : Nat) (s : State) : (State.setDensity d s).waiting = s.waiting := rfl
@[simp] theorem State.setDensity_link (d : Nat) (s : State) : (State.setDensity d s).link = s.link := rfl
@[simp] theorem State.setDensity_outbox (d : Nat) (s : State) : (State.setDensity d s).outbox = s.outbox := rfl
@[simp] theorem State.setDensity_pending (d : Nat) (s : State) : (State.setDensity d s).pending = s.pending := rfl

@[simp] theorem State.setPaper_supply (b : Bool) (s : State) : (State.setPaper b s).supply = s.supply := rfl
@[simp] theorem State.setPaper_resetLow (b : Bool) (s : State) : (State.setPaper b s).resetLow = s.resetLow := rfl
@[simp] theorem State.setPaper_wipeDue (b : Bool) (s : State) : (State.setPaper b s).wipeDue = s.wipeDue := rfl
@[simp] theorem State.setPaper_lines (b : Bool) (s : State) : (State.setPaper b s).lines = s.lines := rfl
@[simp] theorem State.setPaper_store (b : Bool) (s : State) : (State.setPaper b s).store = s.store := rfl
@[simp] theorem State.setPaper_transport (b : Bool) (s : State) : (State.setPaper b s).transport = s.transport := rfl
@[simp] theorem State.setPaper_meter (b : Bool) (s : State) : (State.setPaper b s).meter = s.meter := rfl
@[simp] theorem State.setPaper_contexts (b : Bool) (s : State) : (State.setPaper b s).contexts = s.contexts := rfl
@[simp] theorem State.setPaper_shutter (b : Bool) (s : State) : (State.setPaper b s).shutter = s.shutter := rfl
@[simp] theorem State.setPaper_cycle (b : Bool) (s : State) : (State.setPaper b s).cycle = s.cycle := rfl
@[simp] theorem State.setPaper_composer (b : Bool) (s : State) : (State.setPaper b s).composer = s.composer := rfl
@[simp] theorem State.setPaper_waiting (b : Bool) (s : State) : (State.setPaper b s).waiting = s.waiting := rfl
@[simp] theorem State.setPaper_link (b : Bool) (s : State) : (State.setPaper b s).link = s.link := rfl
@[simp] theorem State.setPaper_outbox (b : Bool) (s : State) : (State.setPaper b s).outbox = s.outbox := rfl
@[simp] theorem State.setPaper_pending (b : Bool) (s : State) : (State.setPaper b s).pending = s.pending := rfl

@[simp] theorem State.setRate_supply (n : Nat) (c : RateClass) (s : State) : (State.setRate n c s).supply = s.supply := rfl
@[simp] theorem State.setRate_resetLow (n : Nat) (c : RateClass) (s : State) : (State.setRate n c s).resetLow = s.resetLow := rfl
@[simp] theorem State.setRate_wipeDue (n : Nat) (c : RateClass) (s : State) : (State.setRate n c s).wipeDue = s.wipeDue := rfl
@[simp] theorem State.setRate_lines (n : Nat) (c : RateClass) (s : State) : (State.setRate n c s).lines = s.lines := rfl
@[simp] theorem State.setRate_transport (n : Nat) (c : RateClass) (s : State) : (State.setRate n c s).transport = s.transport := rfl
@[simp] theorem State.setRate_meter (n : Nat) (c : RateClass) (s : State) : (State.setRate n c s).meter = s.meter := rfl
@[simp] theorem State.setRate_contexts (n : Nat) (c : RateClass) (s : State) : (State.setRate n c s).contexts = s.contexts := rfl
@[simp] theorem State.setRate_shutter (n : Nat) (c : RateClass) (s : State) : (State.setRate n c s).shutter = s.shutter := rfl
@[simp] theorem State.setRate_cycle (n : Nat) (c : RateClass) (s : State) : (State.setRate n c s).cycle = s.cycle := rfl
@[simp] theorem State.setRate_composer (n : Nat) (c : RateClass) (s : State) : (State.setRate n c s).composer = s.composer := rfl
@[simp] theorem State.setRate_printer (n : Nat) (c : RateClass) (s : State) : (State.setRate n c s).printer = s.printer := rfl
@[simp] theorem State.setRate_waiting (n : Nat) (c : RateClass) (s : State) : (State.setRate n c s).waiting = s.waiting := rfl
@[simp] theorem State.setRate_link (n : Nat) (c : RateClass) (s : State) : (State.setRate n c s).link = s.link := rfl
@[simp] theorem State.setRate_outbox (n : Nat) (c : RateClass) (s : State) : (State.setRate n c s).outbox = s.outbox := rfl
@[simp] theorem State.setRate_pending (n : Nat) (c : RateClass) (s : State) : (State.setRate n c s).pending = s.pending := rfl

@[simp] theorem State.setTiers_supply (l : List Tier) (s : State) : (State.setTiers l s).supply = s.supply := rfl
@[simp] theorem State.setTiers_resetLow (l : List Tier) (s : State) : (State.setTiers l s).resetLow = s.resetLow := rfl
@[simp] theorem State.setTiers_wipeDue (l : List Tier) (s : State) : (State.setTiers l s).wipeDue = s.wipeDue := rfl
@[simp] theorem State.setTiers_lines (l : List Tier) (s : State) : (State.setTiers l s).lines = s.lines := rfl
@[simp] theorem State.setTiers_transport (l : List Tier) (s : State) : (State.setTiers l s).transport = s.transport := rfl
@[simp] theorem State.setTiers_meter (l : List Tier) (s : State) : (State.setTiers l s).meter = s.meter := rfl
@[simp] theorem State.setTiers_contexts (l : List Tier) (s : State) : (State.setTiers l s).contexts = s.contexts := rfl
@[simp] theorem State.setTiers_shutter (l : List Tier) (s : State) : (State.setTiers l s).shutter = s.shutter := rfl
@[simp] theorem State.setTiers_cycle (l : List Tier) (s : State) : (State.setTiers l s).cycle = s.cycle := rfl
@[simp] theorem State.setTiers_composer (l : List Tier) (s : State) : (State.setTiers l s).composer = s.composer := rfl
@[simp] theorem State.setTiers_printer (l : List Tier) (s : State) : (State.setTiers l s).printer = s.printer := rfl
@[simp] theorem State.setTiers_waiting (l : List Tier) (s : State) : (State.setTiers l s).waiting = s.waiting := rfl
@[simp] theorem State.setTiers_link (l : List Tier) (s : State) : (State.setTiers l s).link = s.link := rfl
@[simp] theorem State.setTiers_outbox (l : List Tier) (s : State) : (State.setTiers l s).outbox = s.outbox := rfl
@[simp] theorem State.setTiers_pending (l : List Tier) (s : State) : (State.setTiers l s).pending = s.pending := rfl

@[simp] theorem State.setAccounts_supply (l : List Account) (s : State) : (State.setAccounts l s).supply = s.supply := rfl
@[simp] theorem State.setAccounts_resetLow (l : List Account) (s : State) : (State.setAccounts l s).resetLow = s.resetLow := rfl
@[simp] theorem State.setAccounts_wipeDue (l : List Account) (s : State) : (State.setAccounts l s).wipeDue = s.wipeDue := rfl
@[simp] theorem State.setAccounts_lines (l : List Account) (s : State) : (State.setAccounts l s).lines = s.lines := rfl
@[simp] theorem State.setAccounts_transport (l : List Account) (s : State) : (State.setAccounts l s).transport = s.transport := rfl
@[simp] theorem State.setAccounts_meter (l : List Account) (s : State) : (State.setAccounts l s).meter = s.meter := rfl
@[simp] theorem State.setAccounts_contexts (l : List Account) (s : State) : (State.setAccounts l s).contexts = s.contexts := rfl
@[simp] theorem State.setAccounts_shutter (l : List Account) (s : State) : (State.setAccounts l s).shutter = s.shutter := rfl
@[simp] theorem State.setAccounts_cycle (l : List Account) (s : State) : (State.setAccounts l s).cycle = s.cycle := rfl
@[simp] theorem State.setAccounts_composer (l : List Account) (s : State) : (State.setAccounts l s).composer = s.composer := rfl
@[simp] theorem State.setAccounts_printer (l : List Account) (s : State) : (State.setAccounts l s).printer = s.printer := rfl
@[simp] theorem State.setAccounts_waiting (l : List Account) (s : State) : (State.setAccounts l s).waiting = s.waiting := rfl
@[simp] theorem State.setAccounts_link (l : List Account) (s : State) : (State.setAccounts l s).link = s.link := rfl
@[simp] theorem State.setAccounts_outbox (l : List Account) (s : State) : (State.setAccounts l s).outbox = s.outbox := rfl
@[simp] theorem State.setAccounts_pending (l : List Account) (s : State) : (State.setAccounts l s).pending = s.pending := rfl

@[simp] theorem State.dropEntries_supply (n : Nat) (s : State) : (State.dropEntries n s).supply = s.supply := rfl
@[simp] theorem State.dropEntries_resetLow (n : Nat) (s : State) : (State.dropEntries n s).resetLow = s.resetLow := rfl
@[simp] theorem State.dropEntries_wipeDue (n : Nat) (s : State) : (State.dropEntries n s).wipeDue = s.wipeDue := rfl
@[simp] theorem State.dropEntries_lines (n : Nat) (s : State) : (State.dropEntries n s).lines = s.lines := rfl
@[simp] theorem State.dropEntries_transport (n : Nat) (s : State) : (State.dropEntries n s).transport = s.transport := rfl
@[simp] theorem State.dropEntries_meter (n : Nat) (s : State) : (State.dropEntries n s).meter = s.meter := rfl
@[simp] theorem State.dropEntries_contexts (n : Nat) (s : State) : (State.dropEntries n s).contexts = s.contexts := rfl
@[simp] theorem State.dropEntries_shutter (n : Nat) (s : State) : (State.dropEntries n s).shutter = s.shutter := rfl
@[simp] theorem State.dropEntries_cycle (n : Nat) (s : State) : (State.dropEntries n s).cycle = s.cycle := rfl
@[simp] theorem State.dropEntries_composer (n : Nat) (s : State) : (State.dropEntries n s).composer = s.composer := rfl
@[simp] theorem State.dropEntries_printer (n : Nat) (s : State) : (State.dropEntries n s).printer = s.printer := rfl
@[simp] theorem State.dropEntries_waiting (n : Nat) (s : State) : (State.dropEntries n s).waiting = s.waiting := rfl
@[simp] theorem State.dropEntries_link (n : Nat) (s : State) : (State.dropEntries n s).link = s.link := rfl
@[simp] theorem State.dropEntries_outbox (n : Nat) (s : State) : (State.dropEntries n s).outbox = s.outbox := rfl
@[simp] theorem State.dropEntries_pending (n : Nat) (s : State) : (State.dropEntries n s).pending = s.pending := rfl

@[simp] theorem State.setStartRecord_supply (f : StartRecord → StartRecord) (s : State) : (State.setStartRecord f s).supply = s.supply := rfl
@[simp] theorem State.setStartRecord_resetLow (f : StartRecord → StartRecord) (s : State) : (State.setStartRecord f s).resetLow = s.resetLow := rfl
@[simp] theorem State.setStartRecord_wipeDue (f : StartRecord → StartRecord) (s : State) : (State.setStartRecord f s).wipeDue = s.wipeDue := rfl
@[simp] theorem State.setStartRecord_lines (f : StartRecord → StartRecord) (s : State) : (State.setStartRecord f s).lines = s.lines := rfl
@[simp] theorem State.setStartRecord_transport (f : StartRecord → StartRecord) (s : State) : (State.setStartRecord f s).transport = s.transport := rfl
@[simp] theorem State.setStartRecord_meter (f : StartRecord → StartRecord) (s : State) : (State.setStartRecord f s).meter = s.meter := rfl
@[simp] theorem State.setStartRecord_contexts (f : StartRecord → StartRecord) (s : State) : (State.setStartRecord f s).contexts = s.contexts := rfl
@[simp] theorem State.setStartRecord_shutter (f : StartRecord → StartRecord) (s : State) : (State.setStartRecord f s).shutter = s.shutter := rfl
@[simp] theorem State.setStartRecord_cycle (f : StartRecord → StartRecord) (s : State) : (State.setStartRecord f s).cycle = s.cycle := rfl
@[simp] theorem State.setStartRecord_composer (f : StartRecord → StartRecord) (s : State) : (State.setStartRecord f s).composer = s.composer := rfl
@[simp] theorem State.setStartRecord_printer (f : StartRecord → StartRecord) (s : State) : (State.setStartRecord f s).printer = s.printer := rfl
@[simp] theorem State.setStartRecord_waiting (f : StartRecord → StartRecord) (s : State) : (State.setStartRecord f s).waiting = s.waiting := rfl
@[simp] theorem State.setStartRecord_link (f : StartRecord → StartRecord) (s : State) : (State.setStartRecord f s).link = s.link := rfl
@[simp] theorem State.setStartRecord_outbox (f : StartRecord → StartRecord) (s : State) : (State.setStartRecord f s).outbox = s.outbox := rfl
@[simp] theorem State.setStartRecord_pending (f : StartRecord → StartRecord) (s : State) : (State.setStartRecord f s).pending = s.pending := rfl

@[simp] theorem State.clearQueued_supply (s : State) : (State.clearQueued s).supply = s.supply := rfl
@[simp] theorem State.clearQueued_resetLow (s : State) : (State.clearQueued s).resetLow = s.resetLow := rfl
@[simp] theorem State.clearQueued_wipeDue (s : State) : (State.clearQueued s).wipeDue = s.wipeDue := rfl
@[simp] theorem State.clearQueued_lines (s : State) : (State.clearQueued s).lines = s.lines := rfl
@[simp] theorem State.clearQueued_transport (s : State) : (State.clearQueued s).transport = s.transport := rfl
@[simp] theorem State.clearQueued_meter (s : State) : (State.clearQueued s).meter = s.meter := rfl
@[simp] theorem State.clearQueued_contexts (s : State) : (State.clearQueued s).contexts = s.contexts := rfl
@[simp] theorem State.clearQueued_shutter (s : State) : (State.clearQueued s).shutter = s.shutter := rfl
@[simp] theorem State.clearQueued_cycle (s : State) : (State.clearQueued s).cycle = s.cycle := rfl
@[simp] theorem State.clearQueued_composer (s : State) : (State.clearQueued s).composer = s.composer := rfl
@[simp] theorem State.clearQueued_printer (s : State) : (State.clearQueued s).printer = s.printer := rfl
@[simp] theorem State.clearQueued_waiting (s : State) : (State.clearQueued s).waiting = s.waiting := rfl
@[simp] theorem State.clearQueued_link (s : State) : (State.clearQueued s).link = s.link := rfl
@[simp] theorem State.clearQueued_outbox (s : State) : (State.clearQueued s).outbox = s.outbox := rfl
@[simp] theorem State.clearQueued_pending (s : State) : (State.clearQueued s).pending = s.pending := rfl

@[simp] theorem State.clearNotices_supply (s : State) : (State.clearNotices s).supply = s.supply := rfl
@[simp] theorem State.clearNotices_resetLow (s : State) : (State.clearNotices s).resetLow = s.resetLow := rfl
@[simp] theorem State.clearNotices_wipeDue (s : State) : (State.clearNotices s).wipeDue = s.wipeDue := rfl
@[simp] theorem State.clearNotices_lines (s : State) : (State.clearNotices s).lines = s.lines := rfl
@[simp] theorem State.clearNotices_store (s : State) : (State.clearNotices s).store = s.store := rfl
@[simp] theorem State.clearNotices_transport (s : State) : (State.clearNotices s).transport = s.transport := rfl
@[simp] theorem State.clearNotices_meter (s : State) : (State.clearNotices s).meter = s.meter := rfl
@[simp] theorem State.clearNotices_contexts (s : State) : (State.clearNotices s).contexts = s.contexts := rfl
@[simp] theorem State.clearNotices_shutter (s : State) : (State.clearNotices s).shutter = s.shutter := rfl
@[simp] theorem State.clearNotices_cycle (s : State) : (State.clearNotices s).cycle = s.cycle := rfl
@[simp] theorem State.clearNotices_composer (s : State) : (State.clearNotices s).composer = s.composer := rfl
@[simp] theorem State.clearNotices_printer (s : State) : (State.clearNotices s).printer = s.printer := rfl
@[simp] theorem State.clearNotices_waiting (s : State) : (State.clearNotices s).waiting = s.waiting := rfl
@[simp] theorem State.clearNotices_link (s : State) : (State.clearNotices s).link = s.link := rfl
@[simp] theorem State.clearNotices_pending (s : State) : (State.clearNotices s).pending = s.pending := rfl

@[simp] theorem State.startDiscard_supply (s : State) : (State.startDiscard s).supply = s.supply := rfl
@[simp] theorem State.startDiscard_resetLow (s : State) : (State.startDiscard s).resetLow = s.resetLow := rfl
@[simp] theorem State.startDiscard_wipeDue (s : State) : (State.startDiscard s).wipeDue = s.wipeDue := rfl
@[simp] theorem State.startDiscard_lines (s : State) : (State.startDiscard s).lines = s.lines := rfl
@[simp] theorem State.startDiscard_store (s : State) : (State.startDiscard s).store = s.store := rfl
@[simp] theorem State.startDiscard_transport (s : State) : (State.startDiscard s).transport = s.transport := rfl
@[simp] theorem State.startDiscard_meter (s : State) : (State.startDiscard s).meter = s.meter := rfl
@[simp] theorem State.startDiscard_contexts (s : State) : (State.startDiscard s).contexts = s.contexts := rfl
@[simp] theorem State.startDiscard_shutter (s : State) : (State.startDiscard s).shutter = s.shutter := rfl
@[simp] theorem State.startDiscard_cycle (s : State) : (State.startDiscard s).cycle = s.cycle := rfl
@[simp] theorem State.startDiscard_composer (s : State) : (State.startDiscard s).composer = s.composer := rfl
@[simp] theorem State.startDiscard_printer (s : State) : (State.startDiscard s).printer = s.printer := rfl
@[simp] theorem State.startDiscard_waiting (s : State) : (State.startDiscard s).waiting = s.waiting := rfl
@[simp] theorem State.startDiscard_outbox (s : State) : (State.startDiscard s).outbox = s.outbox := rfl
@[simp] theorem State.startDiscard_pending (s : State) : (State.startDiscard s).pending = s.pending := rfl

@[simp] theorem State.linkReset_supply (s : State) : (State.linkReset s).supply = s.supply := rfl
@[simp] theorem State.linkReset_resetLow (s : State) : (State.linkReset s).resetLow = s.resetLow := rfl
@[simp] theorem State.linkReset_wipeDue (s : State) : (State.linkReset s).wipeDue = s.wipeDue := rfl
@[simp] theorem State.linkReset_lines (s : State) : (State.linkReset s).lines = s.lines := rfl
@[simp] theorem State.linkReset_store (s : State) : (State.linkReset s).store = s.store := rfl
@[simp] theorem State.linkReset_transport (s : State) : (State.linkReset s).transport = s.transport := rfl
@[simp] theorem State.linkReset_meter (s : State) : (State.linkReset s).meter = s.meter := rfl
@[simp] theorem State.linkReset_contexts (s : State) : (State.linkReset s).contexts = s.contexts := rfl
@[simp] theorem State.linkReset_shutter (s : State) : (State.linkReset s).shutter = s.shutter := rfl
@[simp] theorem State.linkReset_cycle (s : State) : (State.linkReset s).cycle = s.cycle := rfl
@[simp] theorem State.linkReset_composer (s : State) : (State.linkReset s).composer = s.composer := rfl
@[simp] theorem State.linkReset_printer (s : State) : (State.linkReset s).printer = s.printer := rfl
@[simp] theorem State.linkReset_waiting (s : State) : (State.linkReset s).waiting = s.waiting := rfl
@[simp] theorem State.linkReset_pending (s : State) : (State.linkReset s).pending = s.pending := rfl

@[simp] theorem State.openShutter_supply (s : State) : (State.openShutter s).supply = s.supply := rfl
@[simp] theorem State.openShutter_resetLow (s : State) : (State.openShutter s).resetLow = s.resetLow := rfl
@[simp] theorem State.openShutter_wipeDue (s : State) : (State.openShutter s).wipeDue = s.wipeDue := rfl
@[simp] theorem State.openShutter_lines (s : State) : (State.openShutter s).lines = s.lines := rfl
@[simp] theorem State.openShutter_transport (s : State) : (State.openShutter s).transport = s.transport := rfl
@[simp] theorem State.openShutter_contexts (s : State) : (State.openShutter s).contexts = s.contexts := rfl
@[simp] theorem State.openShutter_cycle (s : State) : (State.openShutter s).cycle = s.cycle := rfl
@[simp] theorem State.openShutter_composer (s : State) : (State.openShutter s).composer = s.composer := rfl
@[simp] theorem State.openShutter_printer (s : State) : (State.openShutter s).printer = s.printer := rfl
@[simp] theorem State.openShutter_waiting (s : State) : (State.openShutter s).waiting = s.waiting := rfl
@[simp] theorem State.openShutter_link (s : State) : (State.openShutter s).link = s.link := rfl
@[simp] theorem State.openShutter_outbox (s : State) : (State.openShutter s).outbox = s.outbox := rfl
@[simp] theorem State.openShutter_pending (s : State) : (State.openShutter s).pending = s.pending := rfl

@[simp] theorem State.takeWarning_resetLow (st : Store) (s : State) : (State.takeWarning st s).resetLow = s.resetLow := rfl
@[simp] theorem State.takeWarning_wipeDue (st : Store) (s : State) : (State.takeWarning st s).wipeDue = s.wipeDue := rfl
@[simp] theorem State.takeWarning_transport (st : Store) (s : State) : (State.takeWarning st s).transport = s.transport := rfl
@[simp] theorem State.takeWarning_meter (st : Store) (s : State) : (State.takeWarning st s).meter = s.meter := rfl
@[simp] theorem State.takeWarning_contexts (st : Store) (s : State) : (State.takeWarning st s).contexts = s.contexts := rfl
@[simp] theorem State.takeWarning_shutter (st : Store) (s : State) : (State.takeWarning st s).shutter = s.shutter := rfl
@[simp] theorem State.takeWarning_cycle (st : Store) (s : State) : (State.takeWarning st s).cycle = s.cycle := rfl
@[simp] theorem State.takeWarning_composer (st : Store) (s : State) : (State.takeWarning st s).composer = s.composer := rfl
@[simp] theorem State.takeWarning_printer (st : Store) (s : State) : (State.takeWarning st s).printer = s.printer := rfl
@[simp] theorem State.takeWarning_waiting (st : Store) (s : State) : (State.takeWarning st s).waiting = s.waiting := rfl
@[simp] theorem State.takeWarning_link (st : Store) (s : State) : (State.takeWarning st s).link = s.link := rfl
@[simp] theorem State.takeWarning_outbox (st : Store) (s : State) : (State.takeWarning st s).outbox = s.outbox := rfl
@[simp] theorem State.takeWarning_pending (st : Store) (s : State) : (State.takeWarning st s).pending = s.pending := rfl
@[simp] theorem State.takeWarning_store (st : Store) (s : State) : (State.takeWarning st s).store = st := rfl
@[simp] theorem State.takeWarning_supply (st : Store) (s : State) : (State.takeWarning st s).supply = .warned := rfl

@[simp] theorem State.queueWait_supply (p : Waiting) (s : State) : (State.queueWait p s).supply = s.supply := rfl
@[simp] theorem State.queueWait_resetLow (p : Waiting) (s : State) : (State.queueWait p s).resetLow = s.resetLow := rfl
@[simp] theorem State.queueWait_wipeDue (p : Waiting) (s : State) : (State.queueWait p s).wipeDue = s.wipeDue := rfl
@[simp] theorem State.queueWait_lines (p : Waiting) (s : State) : (State.queueWait p s).lines = s.lines := rfl
@[simp] theorem State.queueWait_store (p : Waiting) (s : State) : (State.queueWait p s).store = s.store := rfl
@[simp] theorem State.queueWait_transport (p : Waiting) (s : State) : (State.queueWait p s).transport = s.transport := rfl
@[simp] theorem State.queueWait_meter (p : Waiting) (s : State) : (State.queueWait p s).meter = s.meter := rfl
@[simp] theorem State.queueWait_contexts (p : Waiting) (s : State) : (State.queueWait p s).contexts = s.contexts := rfl
@[simp] theorem State.queueWait_shutter (p : Waiting) (s : State) : (State.queueWait p s).shutter = s.shutter := rfl
@[simp] theorem State.queueWait_cycle (p : Waiting) (s : State) : (State.queueWait p s).cycle = s.cycle := rfl
@[simp] theorem State.queueWait_composer (p : Waiting) (s : State) : (State.queueWait p s).composer = s.composer := rfl
@[simp] theorem State.queueWait_printer (p : Waiting) (s : State) : (State.queueWait p s).printer = s.printer := rfl
@[simp] theorem State.queueWait_link (p : Waiting) (s : State) : (State.queueWait p s).link = s.link := rfl
@[simp] theorem State.queueWait_outbox (p : Waiting) (s : State) : (State.queueWait p s).outbox = s.outbox := rfl
@[simp] theorem State.queueWait_pending (p : Waiting) (s : State) : (State.queueWait p s).pending = s.pending := rfl

@[simp] theorem State.readStop_supply (s : State) : (State.readStop s).supply = s.supply := rfl
@[simp] theorem State.readStop_resetLow (s : State) : (State.readStop s).resetLow = s.resetLow := rfl
@[simp] theorem State.readStop_wipeDue (s : State) : (State.readStop s).wipeDue = s.wipeDue := rfl
@[simp] theorem State.readStop_lines (s : State) : (State.readStop s).lines = s.lines := rfl
@[simp] theorem State.readStop_transport (s : State) : (State.readStop s).transport = s.transport := rfl
@[simp] theorem State.readStop_meter (s : State) : (State.readStop s).meter = s.meter := rfl
@[simp] theorem State.readStop_contexts (s : State) : (State.readStop s).contexts = s.contexts := rfl
@[simp] theorem State.readStop_shutter (s : State) : (State.readStop s).shutter = s.shutter := rfl
@[simp] theorem State.readStop_cycle (s : State) : (State.readStop s).cycle = s.cycle := rfl
@[simp] theorem State.readStop_composer (s : State) : (State.readStop s).composer = s.composer := rfl
@[simp] theorem State.readStop_printer (s : State) : (State.readStop s).printer = s.printer := rfl
@[simp] theorem State.readStop_waiting (s : State) : (State.readStop s).waiting = s.waiting := rfl
@[simp] theorem State.readStop_link (s : State) : (State.readStop s).link = s.link := rfl
@[simp] theorem State.readStop_outbox (s : State) : (State.readStop s).outbox = s.outbox := rfl
@[simp] theorem State.readStop_pending (s : State) : (State.readStop s).pending = s.pending := rfl

end Sys2Proof.Machine
end

