-- ==== Sys2Proof/Laws/Stays.lean ====
section
/-! SUPPORT. What every shared operation of the blocks leaves alone, said once for each: the Line Link, the supply and reset
lines, the waiting commands and the configuration stay; a busy transmitter goes on with its line; and the notices stay one of a
kind, the sprocket count in its range and the tables in their room. -/

namespace Sys2Proof.Machine

/-- The kinds of the pending notices differ. -/
def Outbox.distinct (o : Outbox) : Prop := (o.notices.map Notice.kind).Nodup

/-- What an operation of the blocks leaves alone. -/
structure Stays (s t : State) : Prop where
  supply : t.supply = s.supply
  resetLow : t.resetLow = s.resetLow
  wipeDue : t.wipeDue = s.wipeDue
  lines : t.lines = s.lines
  pending : t.pending = s.pending
  link : t.link = s.link
  tx : s.outbox.tx ≠ .idle → t.outbox.tx = s.outbox.tx
  notices : s.outbox.distinct → t.outbox.distinct
  conf : t.store.conf = s.store.conf
  count : CountWf s → CountWf t
  tables : TablesWf s → TablesWf t

theorem Stays.refl (s : State) : Stays s s :=
  ⟨rfl, rfl, rfl, rfl, rfl, rfl, fun _ => rfl, id, rfl, id, id⟩

theorem Stays.trans {s t u : State} (h : Stays s t) (k : Stays t u) : Stays s u where
  supply := k.supply.trans h.supply
  resetLow := k.resetLow.trans h.resetLow
  wipeDue := k.wipeDue.trans h.wipeDue
  lines := k.lines.trans h.lines
  pending := k.pending.trans h.pending
  link := k.link.trans h.link
  tx := fun i => (k.tx (h.tx i ▸ i)).trans (h.tx i)
  notices := fun i => k.notices (h.notices i)
  conf := k.conf.trans h.conf
  count := fun i => k.count (h.count i)
  tables := fun i => k.tables (h.tables i)

/-- What a quiet update changes none of: everything `Stays` speaks of. -/
structure Quiet (s t : State) : Prop where
  supply : t.supply = s.supply
  resetLow : t.resetLow = s.resetLow
  wipeDue : t.wipeDue = s.wipeDue
  lines : t.lines = s.lines
  pending : t.pending = s.pending
  link : t.link = s.link
  outbox : t.outbox = s.outbox
  conf : t.store.conf = s.store.conf
  lastStop : t.store.lastStop = s.store.lastStop
  count : t.transport.count = s.transport.count
  rolls : t.store.rolls.length ≤ s.store.rolls.length
  frames : t.store.frames.length ≤ s.store.frames.length
  accounts : t.store.accounts.length ≤ s.store.accounts.length
  journal : t.store.journal.length ≤ s.store.journal.length
  labels : t.printer.queue.length ≤ s.printer.queue.length
  density : t.store.density = s.store.density

theorem Quiet.stays {s t : State} (h : Quiet s t) : Stays s t where
  supply := h.supply
  resetLow := h.resetLow
  wipeDue := h.wipeDue
  lines := h.lines
  pending := h.pending
  link := h.link
  tx := fun _ => by rw [h.outbox]
  notices := fun i => by rw [h.outbox]; exact i
  conf := h.conf
  count := fun i => ⟨by rw [h.count]; exact i.countLow, by rw [h.count]; exact i.countHigh,
    by rw [h.lastStop]; exact i.stopLow, by rw [h.lastStop]; exact i.stopHigh⟩
  tables := fun i => ⟨by rw [h.conf]; exact i.conf, Nat.le_trans h.rolls i.rolls, Nat.le_trans h.frames i.frames,
    Nat.le_trans h.accounts i.accounts, Nat.le_trans h.journal i.journal, Nat.le_trans h.labels i.labels, by rw [h.density]; exact i.density⟩

/-! ## Notices -/

theorem kinds_without (k : NoticeKind) (l : List Notice) (h : (l.map Notice.kind).Nodup) :
    ((withoutKind k l).map Notice.kind).Nodup :=
  (List.filter_sublist.map _).nodup h

theorem Outbox.add_distinct (n : Notice) (o : Outbox) (h : o.distinct) : (o.add n).distinct := by
  simp only [Outbox.distinct, Outbox.add, List.map_append, List.map_cons, List.map_nil]
  refine List.nodup_append.mpr ⟨kinds_without n.kind _ h, by simp, ?_⟩
  intro a ha b hb
  simp only [List.mem_singleton] at hb
  simp only [List.mem_map, withoutKind, List.mem_filter] at ha
  obtain ⟨m, ⟨-, hm⟩, rfl⟩ := ha
  subst hb
  simpa using hm

theorem Outbox.sendNotice_distinct (o : Outbox) (h : o.distinct) : o.sendNotice.distinct := by
  unfold Outbox.sendNotice
  split
  · exact kinds_without _ _ h
  · exact h

theorem State.chooseLine_distinct (s : State) (h : s.outbox.distinct) : s.chooseLine.outbox.distinct := by
  unfold State.chooseLine
  split
  · exact Outbox.sendNotice_distinct _ h
  · exact h

theorem State.wake_distinct (s : State) (h : s.outbox.distinct) : s.wake.outbox.distinct := by
  unfold State.wake
  split
  · exact State.chooseLine_distinct _ h
  · exact h

/-- The transmitter's choice touches the outbox alone. -/
theorem State.chooseLine_eq (s : State) : s.chooseLine = { s with outbox := s.chooseLine.outbox } := by
  unfold State.chooseLine
  split <;> rfl

theorem State.wake_eq (s : State) : s.wake = { s with outbox := s.wake.outbox } := by
  unfold State.wake
  split
  · exact State.chooseLine_eq s
  · rfl

/-- A busy transmitter is not woken. -/
theorem State.wake_busy (s : State) (h : s.outbox.tx ≠ .idle) : s.wake = s := by
  simp [State.wake, h]

/-- Only the outbox is rewritten, and its kinds stay distinct: everything else stays. -/
theorem stays_outbox (s : State) (o : Outbox) (tx : s.outbox.tx ≠ .idle → o.tx = s.outbox.tx)
    (d : s.outbox.distinct → o.distinct) : Stays s { s with outbox := o } where
  supply := rfl
  resetLow := rfl
  wipeDue := rfl
  lines := rfl
  pending := rfl
  link := rfl
  tx := tx
  notices := d
  conf := rfl
  count := fun i => ⟨i.countLow, i.countHigh, i.stopLow, i.stopHigh⟩
  tables := fun i => ⟨i.conf, i.rolls, i.frames, i.accounts, i.journal, i.labels, i.density⟩

theorem State.wake_stays (s : State) : Stays s s.wake := by
  rw [State.wake_eq]
  exact stays_outbox s _ (fun h => by rw [State.wake_busy s h]) (State.wake_distinct s)

/-- R174: raising a notice touches the outbox alone. -/
theorem State.raise_stays (n : Notice) (s : State) : Stays s (s.raise n) := by
  refine (stays_outbox s (s.outbox.add n) (fun _ => rfl) (Outbox.add_distinct n _)).trans ?_
  exact State.wake_stays _

theorem State.raise_eq (n : Notice) (s : State) : s.raise n = { s with outbox := (s.raise n).outbox } := by
  unfold State.raise
  rw [State.wake_eq]

/-- R175: with a busy transmitter a raised notice is pending and nothing else changes. -/
theorem State.raise_busy (n : Notice) (s : State) (h : s.outbox.tx ≠ .idle) :
    s.raise n = { s with outbox := s.outbox.add n } := State.wake_busy _ h

/-! ## Records -/

/-- A list with room for one more still fits when one more joins it. -/
theorem length_concat_le {α : Type} {l : List α} {a : α} {n : Nat} (h : l.length < n) : (l ++ [a]).length ≤ n := by
  rw [List.length_append]
  exact h

@[simp] theorem replaceRoll_length (r : Roll) (l : List Roll) : (replaceRoll r l).length = l.length := by simp [replaceRoll]

@[simp] theorem replaceFrame_length (f : Frame) (l : List Frame) : (replaceFrame f l).length = l.length := by
  simp [replaceFrame]

/-- A quiet update that rewrites the book alone. -/
theorem State.setBook_stays (b : Book) (s : State) : Stays s (s.setBook b) :=
  Quiet.stays (by constructor <;> first | exact Nat.le_refl _ | rfl)

theorem State.updateOrder_stays (n : Nat) (f : Order → Order) (s : State) : Stays s (s.updateOrder n f) :=
  State.setBook_stays _ s

theorem State.updateItem_stays (o i : Nat) (f : Item → Item) (s : State) : Stays s (s.updateItem o i f) :=
  State.setBook_stays _ s

theorem State.setStep_stays (r : ItemRef) (st : StepStatus) (s : State) : Stays s (s.setStep r st) :=
  State.setBook_stays _ s

theorem State.setRoll_stays (r : Roll) (s : State) : Stays s (s.setRoll r) :=
  Quiet.stays (by constructor <;> simp [State.setRoll])

theorem State.changeRoll_stays (r : Roll) (st : RollState) (s : State) : Stays s (s.changeRoll r st) :=
  (State.setRoll_stays _ s).trans (State.raise_stays _ _)

theorem State.setFrame_stays (f : Frame) (s : State) : Stays s (s.setFrame f) :=
  Quiet.stays (by constructor <;> simp [State.setFrame])

theorem State.withCycle_stays (f : Cycle → Cycle) (s : State) : Stays s (s.withCycle f) :=
  Quiet.stays (by constructor <;> first | exact Nat.le_refl _ | rfl)

theorem State.clearMarker_stays (s : State) : Stays s s.clearMarker :=
  Quiet.stays (by constructor <;> first | exact Nat.le_refl _ | rfl)

theorem State.withdrawMetering_stays (s : State) : Stays s s.withdrawMetering :=
  Quiet.stays (by constructor <;> first | exact Nat.le_refl _ | rfl)

theorem State.endAdvance_stays (s : State) : Stays s s.endAdvance :=
  Quiet.stays (by constructor <;> first | exact Nat.le_refl _ | rfl)

theorem State.closeCommand_stays (s : State) : Stays s s.closeCommand :=
  Quiet.stays (by constructor <;> first | exact Nat.le_refl _ | rfl)

theorem State.shutterIdle_stays (m : Option Nat) (s : State) : Stays s (s.shutterIdle m) :=
  Quiet.stays (by constructor <;> first | exact Nat.le_refl _ | rfl)

theorem State.updateAccount_stays (n : Nat) (f : Account → Account) (s : State) : Stays s (s.updateAccount n f) :=
  Quiet.stays (by constructor <;> simp [State.updateAccount])

theorem State.markCharged_stays (o i : Nat) (s : State) : Stays s (s.markCharged o i) :=
  Quiet.stays (by constructor <;> simp [State.markCharged])

theorem State.removeOrder_stays (n : Nat) (s : State) : Stays s (s.removeOrder n) := State.setBook_stays _ s

theorem State.checkRoll_stays (n : Nat) (s : State) : Stays s (s.checkRoll n) := by
  unfold State.checkRoll
  split
  · split
    · exact State.changeRoll_stays _ _ s
    · exact Stays.refl s
  · exact Stays.refl s

theorem State.reportFilmEnd_stays (s : State) : Stays s s.reportFilmEnd := by
  unfold State.reportFilmEnd
  split
  · split
    · exact State.setRoll_stays _ s
    · exact Stays.refl s
  · exact Stays.refl s

/-- A fold of operations that stay stays. -/
theorem foldl_stays {α : Type} (f : State → α → State) (hf : ∀ s a, Stays s (f s a)) (l : List α) (s : State) :
    Stays s (l.foldl f s) := by
  induction l generalizing s with
  | nil => exact Stays.refl s
  | cons a l ih => exact (hf s a).trans (ih _)

/-- The context queue is volatile state of its own: rewriting it is quiet. -/
theorem stays_contexts (s : State) (l : List Context) : Stays s { s with contexts := l } :=
  Quiet.stays (by constructor <;> first | exact Nat.le_refl _ | rfl)

theorem stays_waiting (s : State) (l : List Waiting) : Stays s { s with waiting := l } :=
  Quiet.stays (by constructor <;> first | exact Nat.le_refl _ | rfl)

theorem stays_shutter (s : State) (x : Shutter) : Stays s { s with shutter := x } :=
  Quiet.stays (by constructor <;> first | exact Nat.le_refl _ | rfl)

theorem stays_meter (s : State) (x : Meter) : Stays s { s with meter := x } :=
  Quiet.stays (by constructor <;> first | exact Nat.le_refl _ | rfl)

theorem stays_composer (s : State) (x : Composer) : Stays s { s with composer := x } :=
  Quiet.stays (by constructor <;> first | exact Nat.le_refl _ | rfl)

theorem stays_transport (s : State) (t : Transport) (h : t.count = s.transport.count) : Stays s { s with transport := t } :=
  Quiet.stays (by constructor <;> first | exact Nat.le_refl _ | rfl | exact h)

/-- A rewritten printer stays when its queue does not grow. -/
theorem withPrinter_stays (f : Printer → Printer) (s : State)
    (h : (f s.printer).queue.length ≤ s.printer.queue.length) : Stays s (s.withPrinter f) :=
  Quiet.stays (by constructor <;> first | exact Nat.le_refl _ | rfl | exact h)

theorem State.discardQueue_stays (s : State) : Stays s s.discardQueue :=
  (stays_contexts s []).trans (foldl_stays _ (fun _ _ => State.setStep_stays _ _ _) _ _)

end Sys2Proof.Machine
end

