-- ==== Sys2Proof/Laws/StaysCycle.lean ====
section
/-! SUPPORT. The shared operations of the Charge Unit and of the stand cycle stay (`Stays`): admission, settlement, the waiting
list, the end of an item, selection, the fault outcomes of an exposure, and going forward at the gate. -/

namespace Sys2Proof.Machine

/-! ## Settlement (R155 to R162) -/

theorem State.admitItem_stays (o : Order) (it : Item) (c : RateClass) (e : Nat) (p : List Int) (s : State) :
    Stays s (s.admitItem o it c e p) :=
  (State.updateAccount_stays _ _ s).trans (State.updateOrder_stays _ _ _)

/-- R162: the journal has room when it holds fewer than 128 entries. -/
theorem State.journalRoom_iff (s : State) : s.journalRoom = true ↔ s.store.journal.length < Config.maxJournal := by
  simp [State.journalRoom]

/-- R161: an entry appended to a journal with room keeps every table in its room. -/
theorem State.appendEntry_stays (a o : Nat) (d : Option ItemCharge) (m : Nat) (s : State) (h : s.journalRoom = true) :
    Stays s (s.appendEntry a o d m) where
  supply := rfl
  resetLow := rfl
  wipeDue := rfl
  lines := rfl
  pending := rfl
  link := rfl
  tx := fun _ => rfl
  notices := id
  conf := rfl
  count := fun i => ⟨i.countLow, i.countHigh, i.stopLow, i.stopHigh⟩
  tables := fun i => ⟨i.conf, i.rolls, i.frames, i.accounts,
    length_concat_le ((State.journalRoom_iff s).mp h), i.labels, i.density⟩

theorem State.writeMinimum_stays (o : Order) (due : Nat) (s : State) (h : s.journalRoom = true) :
    Stays s (s.writeMinimum o due) :=
  (((State.appendEntry_stays _ _ _ _ s h).trans (State.updateAccount_stays _ _ _)).trans (State.raise_stays _ _)).trans
    (State.removeOrder_stays _ _)

theorem State.finalCheck_stays (n : Nat) (s : State) : Stays s (s.finalCheck n) := by
  unfold State.finalCheck
  split
  · split
    · split
      · split
        · exact State.writeMinimum_stays _ _ s ‹_›
        · exact stays_waiting s _
      · exact State.removeOrder_stays _ s
    · exact Stays.refl s
  · exact Stays.refl s

/-- R159: a settlement that has room for the entry it needs. -/
theorem State.settleRecord_stays (o : Order) (it : Item) (s : State) (h : it.needsEntry = true → s.journalRoom = true) :
    Stays s (s.settleRecord o it) := by
  unfold State.settleRecord
  dsimp only
  split
  · refine Stays.trans (Stays.trans (Stays.trans (Stays.trans (State.appendEntry_stays _ _ _ _ s (h ‹_›))
      (State.updateAccount_stays _ _ _)) (State.markCharged_stays _ _ _)) (State.updateOrder_stays _ _ _)) (State.raise_stays _ _)
  · refine Stays.trans (Stays.trans (State.updateAccount_stays _ _ _) (State.markCharged_stays _ _ _))
      (State.updateOrder_stays _ _ _)

/-- R159, R160: a settlement that has room for the entry it needs, with the final check of its order. -/
theorem State.settleItem_stays (o : Order) (it : Item) (s : State) (h : it.needsEntry = true → s.journalRoom = true) :
    Stays s (s.settleItem o it) :=
  (State.settleRecord_stays o it s h).trans (State.finalCheck_stays _ _)

theorem State.lookItem_stays (o i : Nat) (s : State) : Stays s (s.lookItem o i) := by
  unfold State.lookItem
  split
  · exact Stays.refl s
  · split
    · exact Stays.refl s
    · split
      · split
        · rename_i hr
          refine State.settleItem_stays _ _ s fun hn => ?_
          simpa [hn] using hr
        · exact stays_waiting s _
      · exact Stays.refl s

theorem State.workPlace_stays (w : Waiting) (s : State) (h : s.journalRoom = true) : Stays s (s.workPlace w) := by
  unfold State.workPlace
  split
  · split
    · exact Stays.refl s
    · split
      · exact Stays.refl s
      · exact State.settleItem_stays _ _ s fun _ => h
  · split
    · exact Stays.refl s
    · split
      · exact State.writeMinimum_stays _ _ s h
      · exact State.removeOrder_stays _ s

theorem workWaiting_stays (fuel : Nat) (s : State) : Stays s (workWaiting fuel s) := by
  induction fuel generalizing s with
  | zero => exact Stays.refl s
  | succ n ih =>
    unfold workWaiting
    split
    · exact Stays.refl s
    · split
      · rename_i w rest _ h
        exact ((stays_waiting s rest).trans (State.workPlace_stays w { s with waiting := rest } h)).trans (ih _)
      · exact Stays.refl s

theorem State.workList_stays (s : State) : Stays s s.workList := workWaiting_stays _ s

theorem State.rebuildWaiting_stays (s : State) : Stays s s.rebuildWaiting :=
  ((stays_waiting s []).trans (foldl_stays _ (fun _ _ => State.lookItem_stays _ _ _) _ _)).trans
    (foldl_stays _ (fun _ _ => State.finalCheck_stays _ _) _ _)

theorem State.releaseOrders_stays (a : Nat) (s : State) : Stays s (s.releaseOrders a) := State.setBook_stays _ s

/-! ## Frame outcomes and cycle states -/

theorem State.spoilGate_stays (k : FrameCause) (c : Context) (m : Option Nat) (s : State) : Stays s (s.spoilGate k c m) := by
  unfold State.spoilGate
  split
  · exact (State.setFrame_stays _ s).trans (State.updateItem_stays _ _ _ _)
  · exact Stays.refl s

theorem State.voidGate_stays (k : FrameCause) (s : State) : Stays s (s.voidGate k) := by
  unfold State.voidGate
  split
  · exact State.setFrame_stays _ s
  · exact Stays.refl s

theorem State.enterDark_stays (c : CycleState) (s : State) : Stays s (s.enterDark c) := State.withCycle_stays _ s

theorem State.enterStopped_stays (s : State) : Stays s s.enterStopped :=
  (State.enterDark_stays _ s).trans (State.withCycle_stays _ _)

theorem State.enterWaiting_stays (c : WaitCause) (s : State) : Stays s (s.enterWaiting c) := State.enterDark_stays _ s

theorem State.enterPlace_stays (o i : Nat) (s : State) : Stays s (s.enterPlace o i) :=
  (State.enterDark_stays _ s).trans (State.raise_stays _ _)

theorem State.halt_stays (c : HaltCause) (s : State) : Stays s (s.halt c) :=
  ((State.enterDark_stays _ s).trans (State.withCycle_stays _ _)).trans (State.raise_stays _ _)

theorem State.enterWarmup_stays (l : Light) (s : State) : Stays s (s.enterWarmup l) := State.withCycle_stays _ s

theorem State.askMetering_stays (ch : Fin 4) (s : State) : Stays s (s.askMetering ch) := by
  unfold State.askMetering
  split
  · exact Stays.refl s
  · exact stays_meter s _

theorem State.enterMetering_stays (src : Source) (s : State) : Stays s (s.enterMetering src) :=
  (State.withCycle_stays _ s).trans (State.askMetering_stays _ _)

/-! ## The end of an item and the selection (R97, R100) -/

theorem State.setItemEnd_stays (o i : Nat) (c : Bool) (s : State) : Stays s (s.setItemEnd o i c) :=
  State.updateOrder_stays _ _ s

theorem State.cancelPendingItem_stays (o i : Nat) (s : State) : Stays s (s.cancelPendingItem o i) :=
  ((State.setItemEnd_stays _ _ _ s).trans (State.raise_stays _ _)).trans (State.lookItem_stays _ _ _)

theorem State.endActive_stays (o : Nat) (it : Item) (c : Bool) (s : State) : Stays s (s.endActive o it c) :=
  ((((State.withCycle_stays _ s).trans (State.discardQueue_stays _)).trans (State.setItemEnd_stays _ _ _ _)).trans
    (State.raise_stays _ _)).trans (State.lookItem_stays _ _ _)

theorem State.endCancelPending_stays (s : State) : Stays s s.endCancelPending := by
  unfold State.endCancelPending
  split
  · split
    · exact State.endActive_stays _ _ _ s
    · exact Stays.refl s
  · exact Stays.refl s

theorem State.offer_stays (n : Nat) (s : State) : Stays s (s.offer n).1 := by
  unfold State.offer
  split
  · exact Stays.refl s
  · split
    · dsimp only
      split
      · exact State.updateOrder_stays _ _ s
      · exact State.admitItem_stays _ _ _ _ _ s
    · exact Stays.refl s

theorem scanOrders_stays (l : List Nat) (s : State) : Stays s (scanOrders l s).1 := by
  induction l generalizing s with
  | nil => exact Stays.refl s
  | cons n l ih =>
    have h := State.offer_stays n s
    unfold scanOrders
    split
    · rename_i e; rw [e] at h; exact h
    · rename_i e; rw [e] at h; exact h.trans (ih _)

theorem State.select_stays (s : State) : Stays s s.select := by
  unfold State.select
  split
  · split
    · exact State.enterPlace_stays _ _ s
    · have h := scanOrders_stays s.scanList s
      split
      · rename_i e; rw [e] at h; exact h.trans (State.enterPlace_stays _ _ _)
      · rename_i e; rw [e] at h; exact h.trans (State.enterWaiting_stays _ _)
  · exact State.enterWaiting_stays _ s

theorem State.selectIfWaiting_stays (s : State) : Stays s s.selectIfWaiting := by
  unfold State.selectIfWaiting
  split
  · exact State.select_stays s
  · exact Stays.refl s

/-! ## The shutter's fault outcomes and going forward -/

theorem State.returnContext_stays (c : Context) (d : Bool) (s : State) : Stays s (s.returnContext c d) := by
  unfold State.returnContext
  split
  · exact State.setStep_stays _ _ s
  · exact stays_contexts s _

theorem State.reportFault_stays (c : HaltCause) (s : State) : Stays s (s.reportFault c) := by
  unfold State.reportFault
  split
  · exact (State.endCancelPending_stays s).trans (State.halt_stays _ _)
  · exact Stays.refl s

theorem State.outcomeLamp_stays (c : Context) (s : State) : Stays s (s.outcomeLamp c) :=
  ((((((State.spoilGate_stays _ _ _ s).trans (State.setStep_stays _ _ _)).trans (State.discardQueue_stays _)).trans
    (State.clearMarker_stays _)).trans (State.shutterIdle_stays _ _)).trans (State.lookItem_stays _ _ _)).trans
    (State.reportFault_stays _ _)

theorem State.outcomeShutOpen_stays (c : Context) (s : State) : Stays s (s.outcomeShutOpen c) :=
  (((State.returnContext_stays _ _ s).trans (State.shutterIdle_stays _ _)).trans (State.lookItem_stays _ _ _)).trans
    (State.reportFault_stays _ _)

theorem State.outcomeShutClose_stays (c : Context) (m : Option Nat) (d : Bool) (s : State) :
    Stays s (s.outcomeShutClose c m d) :=
  (((((State.spoilGate_stays _ _ _ s).trans (State.returnContext_stays _ _ _)).trans (State.clearMarker_stays _)).trans
    (State.shutterIdle_stays _ _)).trans (State.lookItem_stays _ _ _)).trans (State.reportFault_stays _ _)

theorem State.beginExposure_stays (s : State) : Stays s s.beginExposure := by
  unfold State.beginExposure
  split
  · have h : ∀ rest x, Stays s { s with contexts := rest, shutter := x } := fun rest x =>
      (stays_contexts s rest).trans (stays_shutter _ x)
    dsimp only
    split
    · exact (h _ _).trans (State.outcomeShutClose_stays _ _ _ _)
    · exact h _ _
  · exact Stays.refl s

theorem State.enterExposing_stays (s : State) : Stays s s.enterExposing :=
  (State.withCycle_stays _ s).trans (State.beginExposure_stays _)

theorem State.fill_stays (src : FillLight) (s : State) : Stays s (s.fill src) := by
  unfold State.fill
  split
  · split
    · split
      · split
        · exact (State.updateItem_stays _ _ _ s).trans (stays_contexts _ _)
        · exact Stays.refl s
      · exact Stays.refl s
    · exact Stays.refl s
  · exact Stays.refl s

theorem State.exposeOrWarm_stays (l : Light) (s : State) : Stays s (s.exposeOrWarm l) := by
  unfold State.exposeOrWarm
  split
  · exact State.enterExposing_stays s
  · exact State.enterWarmup_stays _ s

theorem State.meterOrWarm_stays (it : Item) (s : State) : Stays s (s.meterOrWarm it) := by
  unfold State.meterOrWarm
  split
  · exact State.enterMetering_stays _ s
  · exact State.enterWarmup_stays _ s

theorem State.fillManual_stays (it : Item) (s : State) : Stays s (s.fillManual it) := by
  unfold State.fillManual
  split
  · exact State.fill_stays _ s
  · exact Stays.refl s

theorem State.forwardAtGate_stays (s : State) : Stays s s.forwardAtGate := by
  unfold State.forwardAtGate
  split
  · exact Stays.refl s
  · rename_i it _
    dsimp only
    refine (State.fillManual_stays it s).trans ?_
    split
    · exact State.exposeOrWarm_stays _ _
    · split
      · exact Stays.refl _
      · exact State.meterOrWarm_stays _ _

theorem State.compareReload_stays (f : Nat) (s : State) : Stays s (s.compareReload f) := by
  unfold State.compareReload
  split
  · exact State.discardQueue_stays s
  · exact Stays.refl s

end Sys2Proof.Machine
end

