-- ==== Sys2Proof/Laws/StaysFilm.lean ====
section
/-! SUPPORT. The shared operations of the Film Transport Unit, of the exposure outcomes and of the label print channel stay
(`Stays`): the creation of frames, the advance and its ends, count events, ABRT, readings, and labels. -/

namespace Sys2Proof.Machine

/-! ## Creating frames (R10) -/

/-- R8: a frame record is free when the table is not full. -/
theorem State.freeRecords_ne {s : State} (h : ¬ (s.freeRecords == 0) = true) : s.store.frames.length < Config.maxFrames := by
  simp only [State.freeRecords, beq_iff_eq] at h
  omega

/-- R10: a frame created in a table with a free record keeps every table in its room. -/
theorem State.createFrame_stays (r : Roll) (st : FrameState) (g : Option Int) (c : Option FrameCause) (n : Bool) (s : State)
    (h : s.store.frames.length < Config.maxFrames) : Stays s (s.createFrame r st g c n) := by
  have k : Stays s { s with
      store :=
        { s.store with
          frames := s.store.frames ++ [newFrame r.number (r.frameCount + 1) st g c]
          rolls := replaceRoll r.gain s.store.rolls } } :=
    { supply := rfl, resetLow := rfl, wipeDue := rfl, lines := rfl, pending := rfl, link := rfl, tx := fun _ => rfl,
      notices := id, conf := rfl, count := fun i => ⟨i.countLow, i.countHigh, i.stopLow, i.stopHigh⟩,
      tables := fun i => ⟨i.conf, Nat.le_trans (Nat.le_of_eq (replaceRoll_length _ _)) i.rolls, length_concat_le h,
        i.accounts, i.journal,
        i.labels, i.density⟩ }
  unfold State.createFrame
  dsimp only
  split
  · exact k.trans (State.raise_stays _ _)
  · exact k

theorem State.createPositioned_stays (r : Roll) (c : Int) (n : Bool) (s : State)
    (h : s.store.frames.length < Config.maxFrames) : Stays s (s.createPositioned r c n) := by
  unfold State.createPositioned
  dsimp only
  split
  · exact ((State.createFrame_stays _ _ _ _ _ s h).trans (State.changeRoll_stays _ _ _)).trans (State.compareReload_stays _ _)
  · exact State.createFrame_stays _ _ _ _ _ s h

/-! ## The ends of an advance (R16, R42, R43, R110, R116) -/

theorem State.windingPositioned_stays (s : State) : Stays s s.windingPositioned := by
  unfold State.windingPositioned
  refine (State.endCancelPending_stays s).trans ?_
  dsimp only
  split
  · exact State.enterStopped_stays _
  · split
    · exact State.select_stays _
    · exact State.forwardAtGate_stays _

theorem State.windingEnd_stays (e : AdvanceEnd) (s : State) : Stays s (s.windingEnd e) := by
  unfold State.windingEnd
  split
  · split
    · exact State.windingPositioned_stays s
    · split
      · exact (State.endCancelPending_stays s).trans (State.halt_stays _ _)
      · exact Stays.refl s
  · exact Stays.refl s

theorem State.windEnd_stays (e : AdvanceEnd) (s : State) : Stays s (s.windEnd e) := by
  unfold State.windEnd
  split
  · exact State.selectIfWaiting_stays s
  · split
    · exact State.raise_stays _ s
    · exact Stays.refl s

theorem State.threadingEnd_stays (e : AdvanceEnd) (s : State) : Stays s (s.threadingEnd e) := by
  unfold State.threadingEnd
  split
  · exact State.selectIfWaiting_stays s
  · split
    · split
      · exact (State.setRoll_stays _ s).trans (State.raise_stays _ _)
      · exact Stays.refl s
    · exact Stays.refl s

theorem State.reportAdvance_stays (q : Requester) (e : AdvanceEnd) (s : State) : Stays s (s.reportAdvance q e) := by
  cases q with
  | cycle => exact State.windingEnd_stays e s
  | wind => exact State.windEnd_stays e s
  | load => exact State.threadingEnd_stays e s

theorem State.failAdvance_stays (e : AdvanceEnd) (s : State) : Stays s (s.failAdvance e) := by
  unfold State.failAdvance
  split
  · exact Stays.refl s
  · exact (State.endAdvance_stays s).trans (State.reportAdvance_stays _ _ _)

theorem State.endRoll_stays (q : Requester) (r : Roll) (s : State) : Stays s (s.endRoll q r) :=
  ((State.endAdvance_stays s).trans (State.changeRoll_stays _ _ _)).trans (State.reportAdvance_stays _ _ _)

theorem State.endOpenRoll_stays (q : Requester) (s : State) : Stays s (s.endOpenRoll q) := by
  unfold State.endOpenRoll
  split
  · exact State.endRoll_stays _ _ s
  · exact State.endAdvance_stays s

/-! ## Aiming and settling (R38 to R41) -/

/-- R40: the last completed stop count is the count at the end of the settle. -/
theorem stays_lastStop (s : State) : Stays s { s with store := { s.store with lastStop := s.transport.count } } where
  supply := rfl
  resetLow := rfl
  wipeDue := rfl
  lines := rfl
  pending := rfl
  link := rfl
  tx := fun _ => rfl
  notices := id
  conf := rfl
  count := fun i => ⟨i.countLow, i.countHigh, i.countLow, i.countHigh⟩
  tables := fun i => ⟨i.conf, i.rolls, i.frames, i.accounts, i.journal, i.labels, i.density⟩

theorem State.judgeStop_stays (q : Requester) (d : Int) (n : Bool) (s : State) : Stays s (s.judgeStop q d n).1 := by
  unfold State.judgeStop
  refine (stays_lastStop s).trans ?_
  dsimp only
  split
  · exact State.endAdvance_stays _
  · split
    · exact State.endRoll_stays _ _ _
    · split
      · exact (State.endAdvance_stays _).trans (State.reportAdvance_stays _ _ _)
      · rename_i hf
        split
        · exact ((State.createPositioned_stays _ _ _ _ (State.freeRecords_ne hf)).trans (State.endAdvance_stays _)).trans
            (State.reportAdvance_stays _ _ _)
        · exact State.createFrame_stays _ _ _ _ _ _ (State.freeRecords_ne hf)

theorem State.beginStepping_stays (q : Requester) (d : Int) (n : Bool) (s : State) : Stays s (s.beginStepping q d n) := by
  unfold State.beginStepping
  refine stays_transport s _ ?_
  simp only [Transport.startRamp, State.aimTargets]
  split <;> rfl

theorem State.beginSettle_stays (q : Requester) (d : Int) (n : Bool) (s : State) : Stays s (s.beginSettle q d n) :=
  stays_transport s _ rfl

/-- An advance that may go on after a judged stop. -/
theorem goOn_stays {s : State} (p : State × Bool) (f : State → State) (hf : ∀ u, Stays u (f u)) :
    Stays s p.1 → Stays s (match p with
      | (u, true) => f u
      | (u, false) => u) := by
  intro h
  obtain ⟨u, b⟩ := p
  cases b
  · exact h
  · exact h.trans (hf u)

theorem takeAim_stays (fuel : Nat) (q : Requester) (s : State) : Stays s (takeAim fuel q s) := by
  induction fuel generalizing s with
  | zero => exact Stays.refl s
  | succ n ih =>
    unfold takeAim
    split
    · exact State.endAdvance_stays s
    · split
      · exact State.endRoll_stays _ _ s
      · split
        · exact (State.endAdvance_stays s).trans (State.reportAdvance_stays _ _ _)
        · rename_i hf
          have hc := State.freeRecords_ne hf
          dsimp only
          split
          · exact (State.createFrame_stays _ _ _ _ _ s hc).trans (ih _)
          · exact (State.createFrame_stays _ _ _ _ _ s hc).trans (ih _)
          · split
            · exact State.beginStepping_stays _ _ _ s
            · split
              · refine goOn_stays _ _ ih ?_
                exact (State.beginSettle_stays _ _ _ s).trans (State.judgeStop_stays _ _ _ _)
              · exact State.beginSettle_stays _ _ _ s

theorem State.aim_stays (q : Requester) (s : State) : Stays s (s.aim q) := takeAim_stays _ q s

theorem State.settleEnd_stays (a : Advance) (s : State) : Stays s (s.settleEnd a) := by
  unfold State.settleEnd
  exact goOn_stays _ _ (State.aim_stays _) (State.judgeStop_stays _ _ _ s)

theorem State.rebuildLimit_stays (r : Roll) (s : State) : Stays s (s.rebuildLimit r) := by
  unfold State.rebuildLimit
  split
  · exact stays_transport s _ rfl
  · exact Stays.refl s

theorem State.startAdvance_stays (q : Requester) (s : State) : Stays s (s.startAdvance q) := by
  unfold State.startAdvance
  split
  · split
    · exact Stays.refl s
    · split
      · exact State.reportAdvance_stays _ _ s
      · exact (State.rebuildLimit_stays _ s).trans (State.aim_stays _ _)
  · exact Stays.refl s

theorem State.enterWinding_stays (s : State) : Stays s s.enterWinding :=
  (State.withCycle_stays _ s).trans (State.startAdvance_stays _ _)

theorem State.forward_stays (s : State) : Stays s s.forward := by
  unfold State.forward
  split
  · exact Stays.refl s
  · rename_i it _
    dsimp only
    refine (State.fillManual_stays it s).trans ?_
    split
    · exact State.enterWinding_stays _
    · exact State.forwardAtGate_stays _

/-! ## Count events (R24, R25, R27) -/

/-- R25: a rewritten transport whose count stays in its range. -/
theorem stays_moved (s : State) (t : Transport)
    (h : CountWf s → Config.countMin ≤ t.count ∧ t.count ≤ Config.countMax) : Stays s { s with transport := t } where
  supply := rfl
  resetLow := rfl
  wipeDue := rfl
  lines := rfl
  pending := rfl
  link := rfl
  tx := fun _ => rfl
  notices := id
  conf := rfl
  count := fun i => ⟨(h i).1, (h i).2, i.stopLow, i.stopHigh⟩
  tables := fun i => ⟨i.conf, i.rolls, i.frames, i.accounts, i.journal, i.labels, i.density⟩

theorem raiseMarks_stays (l : List Mark) (s : State) : Stays s (raiseMarks l s) :=
  foldl_stays _ (fun _ _ => State.raise_stays _ _) l s

theorem State.limitInSettle_stays (s : State) : Stays s s.limitInSettle := by
  unfold State.limitInSettle
  split
  · split
    · exact State.endOpenRoll_stays _ s
    · exact Stays.refl s
  · exact Stays.refl s

/-- R25: a count below its top that rises by one stays in its range. -/
theorem State.countUp_stays (s : State) (h : ¬ Config.countMax ≤ s.transport.count) : Stays s s.countUp := by
  unfold State.countUp
  dsimp only
  refine Stays.trans (stays_moved s s.transport.rise fun i => ?_) (Stays.trans ?_ (raiseMarks_stays _ _))
  · have := i.countLow
    simp only [Transport.rise]
    omega
  · split
    · exact State.limitInSettle_stays _
    · exact Stays.refl _

/-- R25: a count above its bottom that falls by one stays in its range. -/
theorem State.countDown_stays (s : State) (h : ¬ s.transport.count ≤ Config.countMin) : Stays s s.countDown := by
  unfold State.countDown
  refine stays_moved s s.transport.fall fun i => ?_
  have := i.countHigh
  simp only [Transport.fall]
  omega

theorem State.holdCount_stays (s : State) : Stays s s.holdCount := by
  unfold State.holdCount
  refine Stays.trans (stays_transport s { s.transport with held := true } rfl) ?_
  dsimp only
  split
  · exact (State.setRoll_stays _ _).trans (State.failAdvance_stays _ _)
  · exact State.failAdvance_stays _ _

theorem State.countEvent_stays (up : Bool) (s : State) : Stays s (s.countEvent up) := by
  unfold State.countEvent
  split
  · exact Stays.refl s
  · split
    · split
      · exact State.holdCount_stays s
      · exact State.countUp_stays s ‹_›
    · split
      · exact State.holdCount_stays s
      · exact State.countDown_stays s ‹_›

/-! ## The step timer and ABRT (R34, R40, R44) -/

theorem State.settleAfterStop_stays (a : Advance) (s : State) : Stays s (s.settleAfterStop a) := by
  unfold State.settleAfterStop
  dsimp only
  refine Stays.trans
    (stays_transport s { s.transport with advance := some { a with phase := .settling s.store.conf.settle } } rfl) ?_
  split
  · exact State.settleEnd_stays _ _
  · exact Stays.refl _

theorem State.stepExpiry_stays (a : Advance) (e : Option StepEnd) (s : State) : Stays s (s.stepExpiry a e) := by
  have hd : Stays s { s with transport := s.transport.driveStep } := stays_transport s _ rfl
  unfold State.stepExpiry
  dsimp only
  split
  · refine Stays.trans (stays_transport s
      { (s.transport.driveStep).feed s.store with advance := some a.afterStep } rfl) ?_
    split
    · exact State.failAdvance_stays _ _
    · exact Stays.refl _
  · exact hd.trans (State.settleAfterStop_stays _ _)
  · exact hd.trans (State.endOpenRoll_stays _ _)
  · exact (hd.trans (State.endAdvance_stays _)).trans (State.reportAdvance_stays _ _ _)

theorem State.abortAdvance_stays (s : State) : Stays s s.abortAdvance := by
  unfold State.abortAdvance
  split
  · exact Stays.refl s
  · split
    · exact stays_transport s _ rfl
    · exact (State.endAdvance_stays s).trans (State.reportAdvance_stays _ _ _)

/-! ## Exposure outcomes (R86 to R88, R109, R113) -/

theorem State.exposeGate_stays (c : Context) (m : Nat) (s : State) : Stays s (s.exposeGate c m) := by
  unfold State.exposeGate
  split
  · dsimp only
    split
    · exact (State.setFrame_stays _ s).trans (State.updateItem_stays _ _ _ _)
    · exact State.setFrame_stays _ s
  · exact Stays.refl s

theorem State.countNormal_stays (r : ItemRef) (ask : Bool) (s : State) : Stays s (s.countNormal r ask) := by
  unfold State.countNormal
  split
  · exact Stays.refl s
  · split
    · split
      · exact State.updateItem_stays _ _ _ s
      · split
        · dsimp only
          split
          · exact (State.updateItem_stays _ _ _ s).trans (State.fill_stays _ _)
          · exact State.updateItem_stays _ _ _ s
        · exact (State.updateItem_stays _ _ _ s).trans (State.endActive_stays _ _ _ _)
    · exact Stays.refl s

theorem State.reportNormal_stays (r : ItemRef) (s : State) : Stays s (s.reportNormal r) := by
  unfold State.reportNormal
  split
  · exact (State.countNormal_stays _ _ s).trans (State.enterWinding_stays _)
  · exact State.countNormal_stays _ _ s

theorem State.outcomeNormal_stays (c : Context) (s : State) : Stays s (s.outcomeNormal c) :=
  (((((State.exposeGate_stays _ _ s).trans (State.setStep_stays _ _ _)).trans (State.clearMarker_stays _)).trans
    (State.shutterIdle_stays _ _)).trans (State.lookItem_stays _ _ _)).trans (State.reportNormal_stays _ _)

theorem State.closingDone_stays (p : Option PendingOutcome) (s : State) : Stays s (s.closingDone p) := by
  unfold State.closingDone
  split
  · exact State.outcomeNormal_stays _ s
  · exact State.outcomeLamp_stays _ s
  · exact State.shutterIdle_stays _ s

theorem State.closingLate_stays (p : Option PendingOutcome) (b : Bool) (s : State) : Stays s (s.closingLate p b) := by
  unfold State.closingLate
  split
  · exact State.outcomeShutClose_stays _ _ _ s
  · exact State.shutterIdle_stays _ s

theorem State.startClosing_stays (p : PendingOutcome) (s : State) : Stays s (s.startClosing p) :=
  (State.closeCommand_stays s).trans (stays_shutter _ _)

theorem State.expirePlan_stays (s : State) : Stays s s.expirePlan := by
  unfold State.expirePlan
  split
  · exact (stays_shutter s _).trans (State.startClosing_stays _ _)
  · exact Stays.refl s

theorem State.shutterTick_stays (s : State) : Stays s s.shutterTick := by
  have h := stays_shutter s { s.shutter with ticks := min Config.maxTicks (s.shutter.ticks + 1) }
  unfold State.shutterTick
  dsimp only
  split
  · split
    · exact h.trans (State.expirePlan_stays _)
    · exact h
  · exact h
  · exact Stays.refl s
  · exact Stays.refl s

theorem State.abortExposure_stays (s : State) : Stays s s.abortExposure := by
  unfold State.abortExposure
  split
  · exact Stays.refl s
  · split
    · exact (State.setStep_stays _ _ s).trans (State.shutterIdle_stays _ _)
    · exact State.shutterIdle_stays _ s
  · dsimp only
    refine Stays.trans (Stays.trans (Stays.trans ?_ (State.clearMarker_stays _)) (State.closeCommand_stays _)) (stays_shutter _ _)
    split
    · exact (State.spoilGate_stays _ _ _ s).trans (State.setStep_stays _ _ _)
    · exact Stays.refl s
  · split
    · exact stays_shutter s _
    · exact Stays.refl s

theorem State.abortAll_stays (s : State) : Stays s s.abortAll :=
  (((((State.abortAdvance_stays s).trans (State.withdrawMetering_stays _)).trans (State.abortExposure_stays _)).trans
    (State.discardQueue_stays _)).trans (State.endCancelPending_stays _)).trans (State.enterStopped_stays _)

/-! ## Readings (R49, R54, R58, R62) -/

theorem State.completeCalibration_stays (c : Calibration) (n : Nat) (s : State) : Stays s (s.completeCalibration c n) := by
  unfold State.completeCalibration
  dsimp only
  refine Stays.trans (Quiet.stays ?_) (State.raise_stays _ _)
  constructor <;> first | exact Nat.le_refl _ | rfl

theorem State.offerCalibration_stays (ch : Fin 4) (r : Nat) (s : State) : Stays s (s.offerCalibration ch r) := by
  unfold State.offerCalibration
  split
  · split
    · split
      · exact State.completeCalibration_stays _ _ s
      · exact stays_meter s _
    · exact Stays.refl s
  · exact Stays.refl s

theorem State.completeMetering_stays (m : Metering) (n : Nat) (s : State) : Stays s (s.completeMetering m n) := by
  unfold State.completeMetering
  dsimp only
  have h (src : FillLight) := (State.withdrawMetering_stays s).trans (State.fill_stays src _)
  split
  · exact (h _).trans (State.enterStopped_stays _)
  · exact (h _).trans (State.forward_stays _)

theorem State.offerMetering_stays (w : Option Metering) (ch : Fin 4) (r : Nat) (s : State) :
    Stays s (s.offerMetering w ch r) := by
  unfold State.offerMetering
  split
  · split
    · split
      · exact State.completeMetering_stays _ _ s
      · exact stays_meter s _
    · exact Stays.refl s
  · exact Stays.refl s

theorem State.judgeWindows_stays (ch : Fin 4) (r : Nat) (s : State) : Stays s (s.judgeWindows ch r) := by
  unfold State.judgeWindows
  dsimp only
  split
  · split
    · exact (stays_meter s _).trans (State.startClosing_stays _ _)
    · exact stays_meter s _
  · exact Stays.refl s

theorem State.readingDone_stays (r : Nat) (s : State) : Stays s (s.readingDone r) :=
  (((stays_meter s _).trans (State.offerCalibration_stays _ _ _)).trans (State.offerMetering_stays _ _ _ _)).trans
    (State.judgeWindows_stays _ _ _)

/-! ## Labels (chapters 6 and 7) -/

theorem State.compose_stays (r f : Nat) (s : State) : Stays s (s.compose r f) := by
  unfold State.compose
  split
  · exact stays_composer s _
  · exact Stays.refl s

theorem State.raiseLabel_stays (r : Nat) (e : LabelEvent) (s : State) : Stays s (s.raiseLabel r e) := State.raise_stays _ s

theorem State.startLabel_stays (h : LabelHand) (s : State) : Stays s (s.startLabel h) := by
  unfold State.startLabel
  dsimp only
  have k := withPrinter_stays (fun p => { p with hand := some h, strobe := none }) s (Nat.le_refl _)
  split
  · exact (k.trans (withPrinter_stays _ _ (Nat.le_refl _))).trans (State.raiseLabel_stays _ _ _)
  · exact k.trans (withPrinter_stays _ _ (Nat.le_refl _))

theorem State.startHead_stays (s : State) : Stays s s.startHead := by
  unfold State.startHead
  split
  · exact State.startLabel_stays _ s
  · exact Stays.refl s

theorem State.enterPrinting_stays (h : LabelHand) (s : State) : Stays s (s.enterPrinting h) :=
  (State.compose_stays _ _ s).trans (withPrinter_stays _ _ (Nat.le_refl _))

theorem State.markPrinted_stays (f : Frame) (s : State) : Stays s (s.markPrinted f) := by
  unfold State.markPrinted
  have tail : ∀ t : State, Stays t (t.withPrinter fun p => { p with queue := p.queue.tail }) := fun t =>
    withPrinter_stays _ t (by simp)
  cases f.ref with
  | none => exact (State.setFrame_stays _ s).trans (tail _)
  | some r => exact ((State.updateItem_stays _ _ _ s).trans (State.setFrame_stays _ _)).trans (tail _)

theorem State.printedFrame_stays (f : Frame) (s : State) : Stays s (s.printedFrame f) := by
  unfold State.printedFrame
  refine Stays.trans ?_ (State.checkRoll_stays _ _)
  cases f.ref with
  | none => exact State.markPrinted_stays f s
  | some r => exact (State.markPrinted_stays f s).trans (State.lookItem_stays _ _ _)

theorem State.afterLabel_stays (h : LabelHand) (s : State) : Stays s (s.afterLabel h) := by
  unfold State.afterLabel
  dsimp only
  have k := withPrinter_stays (fun p => { p.quiet with hand := none, state := .idle, strobe := none }) s (Nat.le_refl _)
  split
  · exact k.trans (State.startHead_stays _)
  · exact k.trans (State.raiseLabel_stays _ _ _)

theorem State.completeLabel_stays (h : LabelHand) (s : State) : Stays s (s.completeLabel h) := by
  unfold State.completeLabel
  dsimp only
  refine Stays.trans (Stays.trans (withPrinter_stays (fun p => { p with rows := Config.presentRows }) s (Nat.le_refl _)) ?_)
    (State.afterLabel_stays _ _)
  split
  · split
    · exact State.printedFrame_stays _ _
    · exact withPrinter_stays _ _ (by simp)
  · exact Stays.refl _

theorem State.feedLimit_stays (h : LabelHand) (s : State) : Stays s (s.feedLimit h) :=
  (withPrinter_stays _ s (Nat.le_refl _)).trans (State.raiseLabel_stays _ _ _)

theorem State.setLabels_stays (r : Nat) (l : List Nat) (st : LabelStatus) (s : State) : Stays s (s.setLabels r l st) :=
  Quiet.stays (by constructor <;> simp [State.setLabels])

theorem State.unqueue_stays (l : List (Nat × Nat)) (s : State) : Stays s (s.unqueue l) :=
  Quiet.stays (by constructor <;> simp [State.unqueue])

/-- R137, R138: a look finds no more frames than the queue has room for. -/
theorem lookFrames_length (l : List Frame) (room : Nat) : (lookFrames l room).1.length ≤ room := by
  induction l generalizing room with
  | nil => simp [lookFrames]
  | cons f l ih =>
    unfold lookFrames
    split
    · simp
    · split
      · split
        · simp
        · have h := ih (by assumption)
          split
          rename_i e
          rw [e] at h
          simpa using h
      · exact ih room

end Sys2Proof.Machine
end

