-- ==== Sys2Proof/Laws/Requests.lean ====
section
/-! SUPPORT. What taking a request comes to: the owner's state with the request answered (`State.replied`). One lemma for a
request that its owner acts on, one for a query, and one for a request that waits. -/

namespace Sys2Proof.Machine

/-- R175: the transmitter reserved for a request's reply is busy. -/
theorem State.reserveTx_busy (s : State) : s.reserveTx.outbox.tx ≠ .idle := by
  unfold State.reserveTx
  split
  · simp
  · rename_i h
    simpa using h

/-- R175: a reservation touches the transmitter alone. -/
theorem State.reserveTx_eq (s : State) : s.reserveTx =
    { s with outbox := { s.outbox with tx := if s.outbox.tx == .idle then .reply else s.outbox.tx } } := by
  unfold State.reserveTx
  split
  · rfl
  · simp_all

@[simp] theorem State.reserveTx_supply (s : State) : s.reserveTx.supply = s.supply := by rw [State.reserveTx_eq]
@[simp] theorem State.reserveTx_resetLow (s : State) : s.reserveTx.resetLow = s.resetLow := by rw [State.reserveTx_eq]
@[simp] theorem State.reserveTx_wipeDue (s : State) : s.reserveTx.wipeDue = s.wipeDue := by rw [State.reserveTx_eq]
@[simp] theorem State.reserveTx_lines (s : State) : s.reserveTx.lines = s.lines := by rw [State.reserveTx_eq]
@[simp] theorem State.reserveTx_store (s : State) : s.reserveTx.store = s.store := by rw [State.reserveTx_eq]
@[simp] theorem State.reserveTx_transport (s : State) : s.reserveTx.transport = s.transport := by rw [State.reserveTx_eq]
@[simp] theorem State.reserveTx_meter (s : State) : s.reserveTx.meter = s.meter := by rw [State.reserveTx_eq]
@[simp] theorem State.reserveTx_contexts (s : State) : s.reserveTx.contexts = s.contexts := by rw [State.reserveTx_eq]
@[simp] theorem State.reserveTx_shutter (s : State) : s.reserveTx.shutter = s.shutter := by rw [State.reserveTx_eq]
@[simp] theorem State.reserveTx_cycle (s : State) : s.reserveTx.cycle = s.cycle := by rw [State.reserveTx_eq]
@[simp] theorem State.reserveTx_composer (s : State) : s.reserveTx.composer = s.composer := by rw [State.reserveTx_eq]
@[simp] theorem State.reserveTx_printer (s : State) : s.reserveTx.printer = s.printer := by rw [State.reserveTx_eq]
@[simp] theorem State.reserveTx_waiting (s : State) : s.reserveTx.waiting = s.waiting := by rw [State.reserveTx_eq]
@[simp] theorem State.reserveTx_link (s : State) : s.reserveTx.link = s.link := by rw [State.reserveTx_eq]
@[simp] theorem State.reserveTx_pending (s : State) : s.reserveTx.pending = s.pending := by rw [State.reserveTx_eq]
@[simp] theorem State.reserveTx_notices (s : State) : s.reserveTx.outbox.notices = s.outbox.notices := by
  rw [State.reserveTx_eq]

/-- R170: the reply placed on a state whose transmitter is busy. -/
theorem State.placed_eq (v : Verb) (a : Answer) (t : State) (h : t.outbox.tx ≠ .idle) :
    (if v == .dots then t else t.endStream).placeReply { verb := v.text, answer := a } = t.replied v a := by
  have b : (t.outbox.tx == Tx.idle) = false := by simpa using h
  unfold State.placeReply State.replied
  cases v == Verb.dots <;> simp [State.wake, b, State.endStream]

/-- R170: a request that is taken: its owner's state, with the request answered. -/
theorem request_taken (v : Verb) (own : State → State × Answer) (s : State) (c : s.canTake = true)
    (h : (own s.reserveTx).1.outbox.tx ≠ .idle) :
    request v own s = .next ((own s.reserveTx).1.replied v (own s.reserveTx).2) := by
  unfold request State.answer
  rw [if_pos c]
  exact congrArg _ (State.placed_eq v _ _ h)

/-- R170: a request whose owner leaves alone what the blocks leave alone. -/
theorem request_stays (v : Verb) (own : State → State × Answer) (s : State) (c : s.canTake = true)
    (h : Stays s.reserveTx (own s.reserveTx).1) :
    request v own s = .next ((own s.reserveTx).1.replied v (own s.reserveTx).2) := by
  refine request_taken v own s c ?_
  rw [h.tx (State.reserveTx_busy s)]
  exact State.reserveTx_busy s

/-- The reservation makes no difference to the state that a reply leaves. -/
theorem State.replied_reserve (v : Verb) (a : Answer) (s : State) : s.reserveTx.replied v a = s.replied v a := by
  unfold State.replied State.reserveTx
  split
  · simp_all
  · rfl

/-- R170: a query that is taken changes nothing but the reply queue, the transmitter and the DOTS stream. -/
theorem query_taken (v : Verb) (f : State → Answer) (s : State) (c : s.canTake = true) :
    request v (asks f) s = .next (s.replied v (f s.reserveTx)) := by
  rw [request_taken v (asks f) s c (State.reserveTx_busy s)]
  simp [asks, State.replied_reserve]

/-- R170, R178: a request that cannot be taken waits, and nothing changes. -/
theorem request_waits (v : Verb) (own : State → State × Answer) (s : State) (c : s.canTake = false) :
    request v own s = .next s := by simp [request, c]

end Sys2Proof.Machine
end

