-- ==== Sys2Proof/Laws/Writes.lean ====
section
/-! SUPPORT. What the doubles of Machine/Writes.lean can do, said once for each: the work of a double ends in the state that
the operation of its name makes, so a warning that falls inside a step falls inside the step that `exec` makes. -/

namespace Sys2Proof.Machine

@[simp] theorem Writing.begin_now (s : State) : (Writing.begin s).now = s := rfl
@[simp] theorem Writing.begin_made (s : State) : (Writing.begin s).made = [] := rfl
@[simp] theorem Writing.move_now (f : State → State) (w : Writing) : (w.move f).now = f w.now := rfl
@[simp] theorem Writing.move_made (f : State → State) (w : Writing) : (w.move f).made = w.made := rfl
@[simp] theorem Writing.write_now (f : State → State) (w : Writing) : (w.write f).now = f w.now := rfl
@[simp] theorem Writing.write_made (f : State → State) (w : Writing) : (w.write f).made = w.made ++ [(f w.now).store] := rfl
@[simp] theorem Writing.writes_now (parts : List (State → State)) (f : State → State) (w : Writing) :
    (w.writes parts f).now = f w.now := rfl
@[simp] theorem Writing.writes_made (parts : List (State → State)) (f : State → State) (w : Writing) :
    (w.writes parts f).made = w.made ++ (parts.map fun p => (p w.now).store) ++ [(f w.now).store] := rfl

@[simp] theorem Writing.finalCheck_now (n : Nat) (w : Writing) :
    (w.finalCheck n).now = w.now.finalCheck n := by
  unfold Writing.finalCheck
  cases h : w.now.order n with
  | none => simp [State.finalCheck, h]
  | some o =>
    dsimp only
    split
    · cases e : o.minimumDue with
      | none => simp_all [State.finalCheck]
      | some due =>
        dsimp only
        split <;> simp_all [State.finalCheck]
    · simp only [State.finalCheck, h]
      split <;> first | rfl | contradiction

@[simp] theorem Writing.settleItem_now (o : Order) (it : Item) (w : Writing) :
    (w.settleItem o it).now = w.now.settleItem o it := by
  unfold Writing.settleItem State.settleItem
  split
  · rename_i h
    simp only [Writing.write_now, State.finalCheck]
    unfold State.settledOut at h
    cases e : (w.now.settleRecord o it).order o.number with
    | none => simp [e] at h
    | some q =>
      simp only [e, Bool.and_eq_true, Option.isNone_iff_eq_none] at h
      simp [h.1, h.2]
  · simp

@[simp] theorem Writing.lookItem_now (o : Nat) (i : Nat) (w : Writing) :
    (w.lookItem o i).now = w.now.lookItem o i := by
  unfold Writing.lookItem State.lookItem
  repeat' split
  all_goals simp_all

@[simp] theorem Writing.workPlace_now (p : Waiting) (w : Writing) :
    (w.workPlace p).now = w.now.workPlace p := by
  unfold Writing.workPlace State.workPlace
  repeat' split
  all_goals simp_all

@[simp] theorem Writing.workWaiting_now (fuel : Nat) (w : Writing) :
    (Writing.workWaiting fuel w).now = Machine.workWaiting fuel w.now := by
  induction fuel generalizing w with
  | zero => rfl
  | succ n ih =>
    unfold Writing.workWaiting Machine.workWaiting
    repeat' split
    all_goals simp_all

@[simp] theorem Writing.workList_now (w : Writing) :
    w.workList.now = w.now.workList := by
  simp [Writing.workList, State.workList]

/-- Work over a list ends as the operation over that list does. -/
theorem Writing.foldl_now {α : Type} (f : Writing → α → Writing) (g : State → α → State)
    (h : ∀ w a, (f w a).now = g w.now a) (l : List α) (w : Writing) : (l.foldl f w).now = l.foldl g w.now := by
  induction l generalizing w with
  | nil => rfl
  | cons a l ih => simp [ih, h]

@[simp] theorem Writing.rebuildWaiting_now (w : Writing) :
    w.rebuildWaiting.now = w.now.rebuildWaiting := by
  unfold Writing.rebuildWaiting State.rebuildWaiting
  dsimp only
  rw [Writing.foldl_now _ (fun t n => t.finalCheck n) (by simp), Writing.foldl_now _ (fun t p => t.lookItem p.1 p.2) (by simp)]
  rfl

@[simp] theorem Writing.cancelPendingItem_now (o : Nat) (i : Nat) (w : Writing) :
    (w.cancelPendingItem o i).now = w.now.cancelPendingItem o i := by
  simp [Writing.cancelPendingItem, State.cancelPendingItem]

@[simp] theorem Writing.endActive_now (o : Nat) (it : Item) (cancelled : Bool) (w : Writing) :
    (w.endActive o it cancelled).now = w.now.endActive o it cancelled := by
  simp [Writing.endActive, State.endActive]

@[simp] theorem Writing.endCancelPending_now (w : Writing) :
    w.endCancelPending.now = w.now.endCancelPending := by
  unfold Writing.endCancelPending State.endCancelPending
  repeat' split
  all_goals simp_all

theorem Writing.scanOrders_now (l : List Nat) (w : Writing) :
    ((Writing.scanOrders l w).1.now, (Writing.scanOrders l w).2) = Machine.scanOrders l w.now := by
  induction l generalizing w with
  | nil => rfl
  | cons n l ih =>
    unfold Writing.scanOrders Machine.scanOrders
    split <;> simp_all

@[simp] theorem Writing.select_now (w : Writing) :
    w.select.now = w.now.select := by
  unfold Writing.select State.select
  have h := Writing.scanOrders_now w.now.scanList w
  split
  · cases w.now.active with
    | some p => rfl
    | none =>
      rw [← h]
      dsimp only
      split <;> rename_i e <;> simp [e]
  · rfl

@[simp] theorem Writing.selectIfWaiting_now (w : Writing) :
    w.selectIfWaiting.now = w.now.selectIfWaiting := by
  unfold Writing.selectIfWaiting State.selectIfWaiting
  cases w.now.cycle.isWaiting <;> simp

@[simp] theorem Writing.cancelActive_now (o : Nat) (it : Item) (w : Writing) :
    (w.cancelActive o it).now = (w.now.cancelActive o it).1 := by
  unfold Writing.cancelActive
  cases h : w.now.cycle.state <;> simp [State.cancelActive, h]

@[simp] theorem Writing.cancelPendings_now (o : Order) (w : Writing) :
    (w.cancelPendings o).now = w.now.cancelPendings o := by
  unfold Writing.cancelPendings State.cancelPendings
  exact Writing.foldl_now (fun u (i : Item) => u.cancelPendingItem o.number i.number)
    (fun t i => t.cancelPendingItem o.number i.number) (fun u i => Writing.cancelPendingItem_now o.number i.number u) _ w

@[simp] theorem Writing.release_now (account : Nat) (w : Writing) :
    (w.release account).now = w.now.release account := by
  unfold Writing.release State.release
  split <;> simp

@[simp] theorem Writing.reportFault_now (c : HaltCause) (w : Writing) :
    (w.reportFault c).now = w.now.reportFault c := by
  unfold Writing.reportFault State.reportFault
  repeat' split
  all_goals simp_all

@[simp] theorem Writing.outcomeLamp_now (c : Context) (w : Writing) :
    (w.outcomeLamp c).now = w.now.outcomeLamp c := by
  simp [Writing.outcomeLamp, State.outcomeLamp]

@[simp] theorem Writing.outcomeShutOpen_now (c : Context) (w : Writing) :
    (w.outcomeShutOpen c).now = w.now.outcomeShutOpen c := by
  simp [Writing.outcomeShutOpen, State.outcomeShutOpen]

@[simp] theorem Writing.outcomeShutClose_now (c : Context) (measured : Option Nat) (dropped : Bool) (w : Writing) :
    (w.outcomeShutClose c measured dropped).now = w.now.outcomeShutClose c measured dropped := by
  simp [Writing.outcomeShutClose, State.outcomeShutClose]

@[simp] theorem Writing.beginExposure_now (w : Writing) :
    w.beginExposure.now = w.now.beginExposure := by
  unfold Writing.beginExposure State.beginExposure
  repeat' split
  all_goals simp_all

@[simp] theorem Writing.enterExposing_now (w : Writing) :
    w.enterExposing.now = w.now.enterExposing := by
  simp [Writing.enterExposing, State.enterExposing]

@[simp] theorem Writing.exposeOrWarm_now (l : Light) (w : Writing) :
    (w.exposeOrWarm l).now = w.now.exposeOrWarm l := by
  unfold Writing.exposeOrWarm State.exposeOrWarm
  repeat' split
  all_goals simp_all

@[simp] theorem Writing.fillManual_now (it : Item) (w : Writing) :
    (w.fillManual it).now = w.now.fillManual it := by
  unfold Writing.fillManual State.fillManual
  repeat' split
  all_goals simp_all

@[simp] theorem Writing.forwardAtGate_now (w : Writing) :
    w.forwardAtGate.now = w.now.forwardAtGate := by
  unfold Writing.forwardAtGate State.forwardAtGate
  cases w.now.active with
  | none => rfl
  | some p =>
    simp only [Writing.fillManual_now]
    repeat' split
    all_goals simp_all

@[simp] theorem Writing.windingPositioned_now (w : Writing) :
    w.windingPositioned.now = w.now.windingPositioned := by
  unfold Writing.windingPositioned State.windingPositioned
  simp only [Writing.endCancelPending_now]
  split
  · simp
  · cases w.now.endCancelPending.active <;> simp

@[simp] theorem Writing.windingEnd_now (e : AdvanceEnd) (w : Writing) :
    (w.windingEnd e).now = w.now.windingEnd e := by
  unfold Writing.windingEnd State.windingEnd
  repeat' split
  all_goals simp_all

@[simp] theorem Writing.windEnd_now (e : AdvanceEnd) (w : Writing) :
    (w.windEnd e).now = w.now.windEnd e := by
  unfold Writing.windEnd State.windEnd
  repeat' split
  all_goals simp_all

@[simp] theorem Writing.threadingEnd_now (e : AdvanceEnd) (w : Writing) :
    (w.threadingEnd e).now = w.now.threadingEnd e := by
  unfold Writing.threadingEnd State.threadingEnd
  repeat' split
  all_goals simp_all

@[simp] theorem Writing.reportAdvance_now (req : Requester) (e : AdvanceEnd) (w : Writing) :
    (w.reportAdvance req e).now = w.now.reportAdvance req e := by
  unfold Writing.reportAdvance State.reportAdvance
  repeat' split
  all_goals simp_all

@[simp] theorem Writing.failAdvance_now (e : AdvanceEnd) (w : Writing) :
    (w.failAdvance e).now = w.now.failAdvance e := by
  unfold Writing.failAdvance State.failAdvance
  repeat' split
  all_goals simp_all

@[simp] theorem Writing.endRoll_now (req : Requester) (r : Roll) (w : Writing) :
    (w.endRoll req r).now = w.now.endRoll req r := by
  simp [Writing.endRoll, State.endRoll]

@[simp] theorem Writing.endOpenRoll_now (req : Requester) (w : Writing) :
    (w.endOpenRoll req).now = w.now.endOpenRoll req := by
  unfold Writing.endOpenRoll State.endOpenRoll
  repeat' split
  all_goals simp_all

@[simp] theorem Writing.createPositioned_now (r : Roll) (count : Int) (noted : Bool) (w : Writing) :
    (w.createPositioned r count noted).now = w.now.readStop.createPositioned r count noted := by
  unfold Writing.createPositioned State.createPositioned
  dsimp only
  split <;> rfl

theorem Writing.judgeStop_now (req : Requester) (dest : Int) (noted : Bool) (w : Writing) :
    ((w.judgeStop req dest noted).1.now, (w.judgeStop req dest noted).2) = w.now.judgeStop req dest noted := by
  unfold Writing.judgeStop State.judgeStop
  dsimp only
  rw [show w.now.readStop.openRoll = w.now.openRoll from rfl]
  cases w.now.openRoll with
  | none => rfl
  | some r =>
    simp only [show w.now.readStop.freeRecords = w.now.freeRecords from rfl,
      show w.now.readStop.store.conf = w.now.store.conf from rfl]
    repeat' split
    all_goals simp

theorem Writing.takeAim_now (fuel : Nat) (req : Requester) (w : Writing) :
    (Writing.takeAim fuel req w).now = Machine.takeAim fuel req w.now := by
  induction fuel generalizing w with
  | zero => rfl
  | succ n ih =>
    unfold Writing.takeAim Machine.takeAim
    cases w.now.openRoll with
    | none => rfl
    | some r =>
      dsimp only
      split
      · simp
      · split
        · simp
        · have h := fun noted => Writing.judgeStop_now req (r.destination w.now.cpf) noted
            (w.move (State.beginSettle req (r.destination w.now.cpf) noted))
          simp only [Writing.move_now] at h
          cases w.now.store.classify (r.destination w.now.cpf) (r.destination w.now.cpf + w.now.cpf - 1) with
          | none =>
            dsimp only
            simp only [← h]
            split
            · rfl
            · split
              · split <;> simp_all
              · rfl
          | some k =>
            cases k <;> simp only [ih, Writing.write_now]
            simp only [← h]
            split
            · rfl
            · split
              · split <;> simp_all
              · rfl

@[simp] theorem Writing.aim_now (req : Requester) (w : Writing) :
    (w.aim req).now = w.now.aim req := by
  exact Writing.takeAim_now aimFuel req w

@[simp] theorem Writing.settleEnd_now (a : Advance) (w : Writing) :
    (w.settleEnd a).now = w.now.settleEnd a := by
  unfold Writing.settleEnd State.settleEnd
  have h := Writing.judgeStop_now a.requester a.dest a.noted w
  rw [← h]
  split <;> rename_i e <;> simp [e]

@[simp] theorem Writing.startAdvance_now (req : Requester) (w : Writing) :
    (w.startAdvance req).now = w.now.startAdvance req := by
  unfold Writing.startAdvance State.startAdvance
  cases w.now.transport.advance with
  | some a => rfl
  | none =>
    cases w.now.openRoll with
    | none => rfl
    | some r =>
      dsimp only
      split
      · rfl
      · split <;> simp

@[simp] theorem Writing.enterWinding_now (w : Writing) :
    w.enterWinding.now = w.now.enterWinding := by
  simp [Writing.enterWinding, State.enterWinding]

@[simp] theorem Writing.forward_now (w : Writing) :
    w.forward.now = w.now.forward := by
  unfold Writing.forward State.forward
  cases w.now.active with
  | none => rfl
  | some p =>
    simp only [Writing.fillManual_now]
    split <;> simp

@[simp] theorem Writing.settleAfterStop_now (a : Advance) (w : Writing) :
    (w.settleAfterStop a).now = w.now.settleAfterStop a := by
  unfold Writing.settleAfterStop State.settleAfterStop
  dsimp only
  split <;> simp

@[simp] theorem Writing.stepExpiry_now (a : Advance) (ending : Option StepEnd) (w : Writing) :
    (w.stepExpiry a ending).now = w.now.stepExpiry a ending := by
  unfold Writing.stepExpiry State.stepExpiry
  cases ending with
  | none => dsimp only; split <;> simp
  | some e => cases e <;> simp

@[simp] theorem Writing.limitInSettle_now (w : Writing) :
    w.limitInSettle.now = w.now.limitInSettle := by
  unfold Writing.limitInSettle State.limitInSettle
  cases w.now.transport.advance with
  | none => rfl
  | some a => dsimp only; cases a.phase <;> simp

@[simp] theorem Writing.countUp_now (w : Writing) :
    w.countUp.now = w.now.countUp := by
  unfold Writing.countUp State.countUp
  dsimp only
  split <;> simp

@[simp] theorem Writing.holdCount_now (w : Writing) :
    w.holdCount.now = w.now.holdCount := by
  unfold Writing.holdCount State.holdCount
  simp only [Writing.failAdvance_now, Writing.move_now]
  rw [show State.openRoll { w.now with transport := { w.now.transport with held := true } } = w.now.openRoll from rfl]
  cases w.now.openRoll <;> rfl

@[simp] theorem Writing.countEvent_now (up : Bool) (w : Writing) :
    (w.countEvent up).now = w.now.countEvent up := by
  unfold Writing.countEvent State.countEvent
  repeat' split
  all_goals simp

@[simp] theorem Writing.encoderChange_now (a : Bool) (b : Bool) (a' : Bool) (b' : Bool) (w : Writing) :
    (w.encoderChange a b a' b').now = match encoderCounts w.now.store.conf.encoder a b a' b' with
      | some up => w.now.countEvent up
      | none => w.now := by
  unfold Writing.encoderChange
  cases encoderCounts w.now.store.conf.encoder a b a' b' <;> simp

@[simp] theorem Writing.indexEdge_now (w : Writing) :
    w.indexEdge.now = w.now.indexEdge := by
  unfold Writing.indexEdge
  dsimp only
  cases h : w.now.transport.index.state with
  | starting => rfl
  | running =>
    dsimp only
    split
    · simp only [State.indexEdge, ↓reduceIte, *]
      split <;> simp
    · rfl

@[simp] theorem Writing.stepTimer_now (w : Writing) :
    w.stepTimer.now = w.now.stepTimer := by
  unfold Writing.stepTimer State.stepTimer
  cases w.now.transport.advance with
  | none => rfl
  | some a => dsimp only; cases a.phase <;> simp

@[simp] theorem Writing.settleTimer_now (w : Writing) :
    w.settleTimer.now = w.now.settleTimer := by
  unfold Writing.settleTimer State.settleTimer
  cases w.now.transport.advance with
  | none => rfl
  | some a => dsimp only; cases a.phase <;> simp

@[simp] theorem Writing.countNormal_now (r : ItemRef) (ask : Bool) (w : Writing) :
    (w.countNormal r ask).now = w.now.countNormal r ask := by
  unfold Writing.countNormal State.countNormal
  cases w.now.item r.order r.item with
  | none => rfl
  | some it =>
    dsimp only
    repeat' split
    all_goals simp

@[simp] theorem Writing.reportNormal_now (r : ItemRef) (w : Writing) :
    (w.reportNormal r).now = w.now.reportNormal r := by
  unfold Writing.reportNormal State.reportNormal
  split <;> simp

@[simp] theorem Writing.outcomeNormal_now (c : Context) (w : Writing) :
    (w.outcomeNormal c).now = w.now.outcomeNormal c := by
  simp [Writing.outcomeNormal, State.outcomeNormal]

@[simp] theorem Writing.closingDone_now (pending : Option PendingOutcome) (w : Writing) :
    (w.closingDone pending).now = w.now.closingDone pending := by
  unfold Writing.closingDone State.closingDone
  cases w.now.shutter.held <;> cases pending <;> try rfl
  all_goals rename_i p; cases p <;> simp

@[simp] theorem Writing.closingLate_now (pending : Option PendingOutcome) (aborted : Bool) (w : Writing) :
    (w.closingLate pending aborted).now = w.now.closingLate pending aborted := by
  unfold Writing.closingLate State.closingLate
  cases w.now.shutter.held <;> cases pending <;> try rfl
  simp

@[simp] theorem Writing.earlyClose_now (w : Writing) :
    w.earlyClose.now = w.now.earlyClose := by
  unfold Writing.earlyClose State.earlyClose
  cases w.now.shutter.held <;> simp

@[simp] theorem Writing.contactCloses_now (w : Writing) :
    w.contactCloses.now = w.now.contactCloses := by
  unfold Writing.contactCloses State.contactCloses
  repeat' split
  all_goals simp_all

@[simp] theorem Writing.openTimeout_now (w : Writing) :
    w.openTimeout.now = w.now.openTimeout := by
  unfold Writing.openTimeout State.openTimeout
  repeat' split
  all_goals simp_all

@[simp] theorem Writing.closeTimeout_now (w : Writing) :
    w.closeTimeout.now = w.now.closeTimeout := by
  unfold Writing.closeTimeout State.closeTimeout
  repeat' split
  all_goals simp_all

@[simp] theorem Writing.abortAdvance_now (w : Writing) :
    w.abortAdvance.now = w.now.abortAdvance := by
  unfold Writing.abortAdvance State.abortAdvance
  repeat' split
  all_goals simp_all

@[simp] theorem Writing.abortExposure_now (w : Writing) :
    w.abortExposure.now = w.now.abortExposure := by
  unfold Writing.abortExposure State.abortExposure
  repeat' split
  all_goals simp_all

@[simp] theorem Writing.abortAll_now (w : Writing) :
    w.abortAll.now = w.now.abortAll := by
  simp [Writing.abortAll, State.abortAll]

@[simp] theorem Writing.offerCalibration_now (ch : Fin 4) (r : Nat) (w : Writing) :
    (w.offerCalibration ch r).now = w.now.offerCalibration ch r := by
  rfl

@[simp] theorem Writing.completeMetering_now (m : Metering) (sum : Nat) (w : Writing) :
    (w.completeMetering m sum).now = w.now.completeMetering m sum := by
  unfold Writing.completeMetering State.completeMetering
  dsimp only
  rw [apply_ite Writing.now]
  simp

@[simp] theorem Writing.offerMetering_now (was : Option Metering) (ch : Fin 4) (r : Nat) (w : Writing) :
    (w.offerMetering was ch r).now = w.now.offerMetering was ch r := by
  unfold Writing.offerMetering
  cases was with
  | none => rfl
  | some u =>
    cases h : w.now.meter.metering with
    | none => simp [State.offerMetering, h]
    | some m =>
      dsimp only
      split
      · split <;> simp_all [State.offerMetering]
      · simp only [State.offerMetering, h]
        split <;> first | rfl | contradiction

@[simp] theorem Writing.readingDone_now (r : Nat) (w : Writing) :
    (w.readingDone r).now = w.now.readingDone r := by
  simp [Writing.readingDone, State.readingDone]

@[simp] theorem Writing.warmupDone_now (w : Writing) :
    w.warmupDone.now = w.now.warmupDone := by
  unfold Writing.warmupDone State.warmupDone
  repeat' split
  all_goals simp_all

@[simp] theorem Writing.printedFrame_now (f : Frame) (w : Writing) :
    (w.printedFrame f).now = w.now.printedFrame f := by
  unfold Writing.printedFrame State.printedFrame
  cases f.ref <;> simp

@[simp] theorem Writing.completeLabel_now (h : LabelHand) (w : Writing) :
    (w.completeLabel h).now = w.now.completeLabel h := by
  unfold Writing.completeLabel State.completeLabel
  simp only [Writing.move_now]
  cases h.kind with
  | rprt => rfl
  | queue =>
    cases State.frameAt h.roll h.frame (w.now.withPrinter fun p => { p with rows := Config.presentRows }) <;> simp

@[simp] theorem Writing.presentRow_now (w : Writing) :
    w.presentRow.now = w.now.presentRow := by
  unfold Writing.presentRow
  split
  · split
    · simp_all [State.presentRow]
    · rfl
  · unfold State.presentRow
    split <;> simp_all

@[simp] theorem Writing.load_now (film : Int) (length : Option Int) (w : Writing) :
    (w.load film length).now =
      (w.now.loadRoll (w.now.newRoll film.toNat (length.map (clampNat 1 Config.maxRollFrames)))).startAdvance .load := by
  simp [Writing.load]

theorem Writing.unload_now (r : Roll) (w : Writing) (h : w.now.openRoll = some r) : w.unload.now = w.now.unloadRoll r := by
  simp only [Writing.unload, State.unloadRoll, h, Writing.move_now, Writing.write_now]
  rfl

@[simp] theorem Writing.decide_now (r : ItemRef) (named : Frame → Bool) (w : Writing) :
    (w.decide r named).now = w.now.decide r named := by
  unfold Writing.decide State.decide
  dsimp only
  rw [Writing.foldl_now _ (fun t n => t.checkRoll n) (fun _ _ => rfl)]
  simp

@[simp] theorem Writing.wind_now (w : Writing) :
    w.wind.now = (w.now.voidGate .wind).startAdvance .wind := by
  simp [Writing.wind]

@[simp] theorem Writing.resetClosing_now (w : Writing) :
    w.resetClosing.now = w.now.resetClosing := by
  unfold Writing.resetClosing State.resetClosing
  cases w.now.shutter.phase <;> simp

@[simp] theorem Writing.resetBlocks_now (w : Writing) :
    w.resetBlocks.now = w.now.resetBlocks := by
  rfl

@[simp] theorem Writing.resetAll_now (w : Writing) :
    w.resetAll.now = w.now.resetAll := by
  simp [Writing.resetAll, State.resetAll]

@[simp] theorem Writing.rset_now (w : Writing) :
    w.rset.now = (w.now.clearNotices.resetAll.startDiscard).setStartRecord fun r => { r with kind := .rset } := by
  simp [Writing.rset]

@[simp] theorem Writing.cold_now (kind : StartKind) (w : Writing) :
    (w.cold kind).now = State.cold kind w.now.lines w.now.pending := by
  rfl

@[simp] theorem Writing.warmItem_now (w : Writing) :
    w.warmItem.now = w.now.warmItem := by
  unfold Writing.warmItem State.warmItem
  cases w.now.active <;> simp

@[simp] theorem Writing.warm_now (w : Writing) :
    w.warm.now = w.now.warm := by
  simp [Writing.warm, State.warm]

end Sys2Proof.Machine
end

