-- ==== Sys2Proof/Laws/Leads.lean ====
section
/-! SUPPORT. What the retained writes of a command can be, said once (R179): every double of Machine/Writes.lean leads from work to
work by changes of two kinds, one that leaves the store alone and one that is a write, and each of them keeps what `Stays` says
and the roll directory, and gains at most one frame record. The theorems at the end say what this means for the stores that a
power-fail warning can find. -/

namespace Sys2Proof.Machine

/-- What a retained write leaves alone or in its room. -/
structure Sound (s t : State) : Prop where
  stays : Stays s t
  directory : DirectoryWf s → DirectoryWf t
  frames : t.store.frames.length ≤ s.store.frames.length + 1

/-- The directory is judged by the roll records alone. -/
theorem DirectoryWf.of_rolls {s t : State} (h : t.store.rolls = s.store.rolls) (k : DirectoryWf s) : DirectoryWf t :=
  ⟨h ▸ k.room, h ▸ k.distinct, h ▸ k.oneOpen⟩

theorem Sound.of {s t : State} (h : Stays s t) (rolls : t.store.rolls = s.store.rolls)
    (frames : t.store.frames.length = s.store.frames.length) : Sound s t :=
  ⟨h, DirectoryWf.of_rolls rolls, by omega⟩

/-- Work leads on to further work: by changes that leave the store alone, in the blocks or at the line alone, and by retained
writes. -/
inductive Writing.Leads (w : Writing) : Writing → Prop
  | refl : Leads w w
  | move {v : Writing} {f : State → State} (h : Leads w v) (store : (f v.now).store = v.now.store) (stays : Stays v.now (f v.now)) :
      Leads w (v.move f)
  | other {v : Writing} {f : State → State} (h : Leads w v) (store : (f v.now).store = v.now.store)
      (transport : (f v.now).transport = v.now.transport) (printer : (f v.now).printer = v.now.printer) : Leads w (v.move f)
  | write {v : Writing} {f : State → State} (h : Leads w v) (sound : Sound v.now (f v.now)) : Leads w (v.write f)
  | writes {v : Writing} {parts : List (State → State)} {f : State → State} (h : Leads w v)
      (sound : ∀ p ∈ f :: parts, Sound v.now (p v.now) ∧ (p v.now).store.frames.length = v.now.store.frames.length) :
      Leads w (v.writes parts f)

theorem Writing.Leads.trans {u v w : Writing} (h : u.Leads v) (k : v.Leads w) : u.Leads w := by
  induction k with
  | refl => exact h
  | move _ store stays ih => exact ih.move store stays
  | other _ store transport printer ih => exact ih.other store transport printer
  | write _ sound ih => exact ih.write sound
  | writes _ sound ih => exact ih.writes sound

/-- Work over a list leads on when each of its parts does. -/
theorem Writing.foldl_leads {α : Type} (f : Writing → α → Writing) (g : ∀ (w : Writing) (x : α), w.Leads (f w x)) (l : List α) (w : Writing) :
    w.Leads (l.foldl f w) := by
  induction l generalizing w with
  | nil => exact .refl
  | cons x l ih => exact (g w x).trans (ih _)

/-! ## The writes -/

theorem State.raise_store (n : Notice) (s : State) : (s.raise n).store = s.store := by rw [State.raise_eq]

theorem State.setBook_sound (b : Book) (s : State) : Sound s (s.setBook b) := .of (State.setBook_stays b s) rfl rfl

theorem State.updateItem_sound (o i : Nat) (f : Item → Item) (s : State) : Sound s (s.updateItem o i f) :=
  State.setBook_sound _ s

theorem State.removeOrder_sound (n : Nat) (s : State) : Sound s (s.removeOrder n) := State.setBook_sound _ s

theorem State.setItemEnd_sound (o i : Nat) (c : Bool) (s : State) : Sound s (s.setItemEnd o i c) := State.setBook_sound _ s

/-- In a list whose numbers differ a number names one roll. -/
theorem roll_eq_of_number {l : List Roll} (h : (l.map Roll.number).Nodup) {x y : Roll} (hx : x ∈ l) (hy : y ∈ l)
    (e : x.number = y.number) : x = y := by
  induction l with
  | nil => cases hx
  | cons a l ih =>
    simp only [List.map_cons, List.nodup_cons, List.mem_map, not_exists, not_and] at h
    rcases List.mem_cons.mp hx with rfl | hx' <;> rcases List.mem_cons.mp hy with rfl | hy'
    · rfl
    · exact absurd e.symm (h.1 y hy')
    · exact absurd e (h.1 x hx')
    · exact ih h.2 hx' hy'

/-- A roll record is replaced by one of its number that is open only if it was. -/
theorem State.setRoll_directory (q r : Roll) (s : State) (mem : q ∈ s.store.rolls) (number : r.number = q.number)
    (opened : r.isOpen = true → q.isOpen = true) (h : DirectoryWf s) : DirectoryWf (s.setRoll r) := by
  have same : (replaceRoll r s.store.rolls).map Roll.number = s.store.rolls.map Roll.number := by
    simp only [replaceRoll, List.map_map]
    refine List.map_congr_left fun x _ => ?_
    by_cases e : x.number = r.number <;> simp [e]
  have keep : ∀ x ∈ s.store.rolls, (if x.number == r.number then r else x).isOpen = true → x.isOpen = true := by
    intro x hx
    by_cases e : x.number = r.number
    · have : x = q := roll_eq_of_number h.distinct hx mem (by rw [e, number])
      subst this
      simpa [e] using opened
    · simp [e]
  refine ⟨by simpa [State.setRoll] using h.room, by simpa [State.setRoll, same] using h.distinct, ?_⟩
  refine Nat.le_trans ?_ h.oneOpen
  simp only [State.setRoll, replaceRoll, ← List.countP_eq_length_filter, List.countP_map]
  exact List.countP_mono_left fun x hx => by simpa using keep x hx

/-- The rolls, and the number of frame records, are as they were. -/
structure SameFilm (s t : State) : Prop where
  rolls : t.store.rolls = s.store.rolls
  frames : t.store.frames.length = s.store.frames.length

theorem SameFilm.refl (s : State) : SameFilm s s := ⟨rfl, rfl⟩
theorem SameFilm.trans {s t u : State} (h : SameFilm s t) (k : SameFilm t u) : SameFilm s u :=
  ⟨k.rolls.trans h.rolls, k.frames.trans h.frames⟩
theorem SameFilm.sound {s t : State} (h : SameFilm s t) (k : Stays s t) : Sound s t := .of k h.rolls h.frames
theorem SameFilm.of_store {s t : State} (h : t.store = s.store) : SameFilm s t := ⟨by rw [h], by rw [h]⟩

theorem foldl_film {α : Type} (f : State → α → State) (hf : ∀ s a, SameFilm s (f s a)) (l : List α) (s : State) :
    SameFilm s (l.foldl f s) := by
  induction l generalizing s with
  | nil => exact .refl s
  | cons a l ih => exact (hf s a).trans (ih _)

theorem State.raise_film (n : Notice) (s : State) : SameFilm s (s.raise n) := .of_store (State.raise_store n s)
theorem State.updateItem_film (o i : Nat) (f : Item → Item) (s : State) : SameFilm s (s.updateItem o i f) := ⟨rfl, rfl⟩
theorem State.setStep_film (r : ItemRef) (st : StepStatus) (s : State) : SameFilm s (s.setStep r st) := ⟨rfl, rfl⟩
theorem State.setFrame_film (f : Frame) (s : State) : SameFilm s (s.setFrame f) := ⟨rfl, by simp [State.setFrame]⟩

theorem stays_contexts_film (s : State) (l : List Context) : SameFilm s { s with contexts := l } := ⟨rfl, rfl⟩

theorem State.discardQueue_film (s : State) : SameFilm s s.discardQueue :=
  (stays_contexts_film s []).trans (foldl_film _ (fun _ _ => State.setStep_film _ _ _) _ _)

theorem State.offer_film (n : Nat) (s : State) : SameFilm s (s.offer n).1 := by
  unfold State.offer
  split
  · exact .refl s
  · split
    · dsimp only
      split <;> exact ⟨rfl, rfl⟩
    · exact .refl s

theorem State.returnContext_film (c : Context) (d : Bool) (s : State) : SameFilm s (s.returnContext c d) := by
  unfold State.returnContext
  split <;> exact ⟨rfl, rfl⟩

theorem State.spoilFrame_film (k : FrameCause) (c : Context) (m : Option Nat) (s : State) : SameFilm s (s.spoilFrame k c m) := by
  unfold State.spoilFrame
  split
  · exact State.setFrame_film _ s
  · exact .refl s

theorem State.spoilGate_film (k : FrameCause) (c : Context) (m : Option Nat) (s : State) : SameFilm s (s.spoilGate k c m) := by
  unfold State.spoilGate
  split
  · exact (State.setFrame_film _ s).trans ⟨rfl, rfl⟩
  · exact .refl s

theorem State.voidGate_film (k : FrameCause) (s : State) : SameFilm s (s.voidGate k) := by
  unfold State.voidGate
  split
  · exact State.setFrame_film _ s
  · exact .refl s

theorem State.exposeFrame_film (c : Context) (m : Nat) (s : State) : SameFilm s (s.exposeFrame c m) := by
  unfold State.exposeFrame
  split
  · exact State.setFrame_film _ s
  · exact .refl s

theorem State.exposeGate_film (c : Context) (m : Nat) (s : State) : SameFilm s (s.exposeGate c m) := by
  unfold State.exposeGate
  split
  · dsimp only
    split
    · exact (State.setFrame_film _ s).trans ⟨rfl, rfl⟩
    · exact State.setFrame_film _ s
  · exact .refl s

theorem State.appendEntry_film (a o : Nat) (d : Option ItemCharge) (m : Nat) (s : State) : SameFilm s (s.appendEntry a o d m) :=
  ⟨rfl, rfl⟩

theorem State.updateAccount_film (n : Nat) (f : Account → Account) (s : State) : SameFilm s (s.updateAccount n f) := ⟨rfl, rfl⟩

theorem State.updateOrder_film (n : Nat) (f : Order → Order) (s : State) : SameFilm s (s.updateOrder n f) := ⟨rfl, rfl⟩

theorem State.removeOrder_film (n : Nat) (s : State) : SameFilm s (s.removeOrder n) := ⟨rfl, rfl⟩

theorem State.writeMinimum_film (o : Order) (due : Nat) (s : State) : SameFilm s (s.writeMinimum o due) :=
  (((State.appendEntry_film _ _ _ _ s).trans (State.updateAccount_film _ _ _)).trans (State.raise_film _ _)).trans
    (State.removeOrder_film _ _)

theorem State.markCharged_film (o i : Nat) (s : State) : SameFilm s (s.markCharged o i) := ⟨rfl, by simp [State.markCharged]⟩

theorem State.settleRecord_film (o : Order) (it : Item) (s : State) : SameFilm s (s.settleRecord o it) := by
  unfold State.settleRecord
  dsimp only
  split
  · exact ((((State.appendEntry_film _ _ _ _ s).trans (State.updateAccount_film _ _ _)).trans (State.markCharged_film _ _ _)).trans
      (State.updateOrder_film _ _ _)).trans (State.raise_film _ _)
  · exact ((State.updateAccount_film _ _ _).trans (State.markCharged_film _ _ _)).trans (State.updateOrder_film _ _ _)

theorem State.fill_film (src : FillLight) (s : State) : SameFilm s (s.fill src) := by
  unfold State.fill
  split
  · split
    · split
      · split
        · exact (State.updateItem_film _ _ _ s).trans (stays_contexts_film _ _)
        · exact .refl s
      · exact .refl s
    · exact .refl s
  · exact .refl s

theorem State.compareReload_film (f : Nat) (s : State) : SameFilm s (s.compareReload f) := by
  unfold State.compareReload
  split
  · exact State.discardQueue_film s
  · exact .refl s

theorem State.completeCalibration_film (c : Calibration) (n : Nat) (s : State) : SameFilm s (s.completeCalibration c n) := by
  unfold State.completeCalibration
  dsimp only
  refine SameFilm.trans ?_ (State.raise_film _ _)
  exact ⟨rfl, rfl⟩

theorem State.offerCalibration_film (ch : Fin 4) (r : Nat) (s : State) : SameFilm s (s.offerCalibration ch r) := by
  unfold State.offerCalibration
  split
  · split
    · split
      · exact State.completeCalibration_film _ _ s
      · exact ⟨rfl, rfl⟩
    · exact .refl s
  · exact .refl s

theorem State.markPrinted_film (f : Frame) (s : State) : SameFilm s (s.markPrinted f) := by
  unfold State.markPrinted
  split
  · exact ((State.updateItem_film _ _ _ s).trans (State.setFrame_film _ _)).trans ⟨rfl, rfl⟩
  · exact (State.setFrame_film _ s).trans ⟨rfl, rfl⟩

theorem State.abortExposure_film (s : State) : SameFilm s s.abortExposure := by
  unfold State.abortExposure
  split
  · exact .refl s
  · split <;> exact ⟨rfl, rfl⟩
  · dsimp only
    refine SameFilm.trans (t := match s.shutter.held with
      | some c => (s.spoilGate .abort c (some s.shutter.ticks)).setStep c.ref .pending
      | none => s) ?_ ⟨rfl, rfl⟩
    split
    · exact (State.spoilGate_film _ _ _ s).trans (State.setStep_film _ _ _)
    · exact .refl s
  · split <;> exact ⟨rfl, rfl⟩

theorem State.cancelActive_film (o : Nat) (it : Item) (s : State) (h : s.cycle.state = .exposing ∨ s.cycle.state = .winding) :
    SameFilm s (s.cancelActive o it).1 := by
  unfold State.cancelActive
  rcases h with h | h <;> rw [h] <;> exact ⟨rfl, rfl⟩

theorem State.readStop_stays (s : State) : Stays s s.readStop := stays_lastStop s
theorem State.readStop_film (s : State) : SameFilm s s.readStop := ⟨rfl, rfl⟩
theorem State.readStop_sound (s : State) : Sound s s.readStop := (State.readStop_film s).sound (State.readStop_stays s)

/-! ## What the doubles do -/

theorem State.enterPlace_store (o i : Nat) (s : State) : (s.enterPlace o i).store = s.store := State.raise_store _ _
theorem State.halt_store (c : HaltCause) (s : State) : (s.halt c).store = s.store := State.raise_store _ _

theorem Writing.finalCheck_leads (n : Nat) (w : Writing) : w.Leads (w.finalCheck n) := by
  unfold Writing.finalCheck
  split
  · split
    · split
      · split
        · exact .write .refl ((State.writeMinimum_film _ _ _).sound (State.writeMinimum_stays _ _ _ ‹_›))
        · exact .move .refl rfl (stays_waiting _ _)
      · exact .write .refl (State.removeOrder_sound _ _)
    · exact .refl
  · exact .refl

theorem Writing.settleItem_leads (o : Order) (it : Item) (w : Writing) (h : it.needsEntry = true → w.now.journalRoom = true) :
    w.Leads (w.settleItem o it) := by
  unfold Writing.settleItem
  have film := State.settleRecord_film o it w.now
  have stays := State.settleRecord_stays o it w.now h
  split
  · exact .write .refl ((film.trans (State.removeOrder_film _ _)).sound (stays.trans (State.setBook_stays _ _)))
  · exact (Leads.write .refl (film.sound stays)).trans (Writing.finalCheck_leads _ _)

theorem Writing.lookItem_leads (o i : Nat) (w : Writing) : w.Leads (w.lookItem o i) := by
  unfold Writing.lookItem
  split
  · exact .refl
  · split
    · exact .refl
    · split
      · split
        · rename_i h
          refine Writing.settleItem_leads _ _ _ fun e => ?_
          simpa [e] using h
        · exact .move .refl rfl (stays_waiting _ _)
      · exact .refl

theorem Writing.workPlace_leads (p : Waiting) (w : Writing) (h : w.now.journalRoom = true) : w.Leads (w.workPlace p) := by
  unfold Writing.workPlace
  repeat' split
  · exact .refl
  · exact .refl
  · exact Writing.settleItem_leads _ _ _ fun _ => h
  · exact .refl
  · exact .write .refl ((State.writeMinimum_film _ _ _).sound (State.writeMinimum_stays _ _ _ h))
  · exact .write .refl (State.removeOrder_sound _ _)

theorem Writing.workWaiting_leads (fuel : Nat) (w : Writing) : w.Leads (Writing.workWaiting fuel w) := by
  induction fuel generalizing w with
  | zero => exact .refl
  | succ n ih =>
    unfold Writing.workWaiting
    split
    · exact .refl
    · split
      · exact ((Leads.move .refl rfl (stays_waiting _ _)).trans (Writing.workPlace_leads _ _ ‹_›)).trans (ih _)
      · exact .refl

theorem Writing.workList_leads (w : Writing) : w.Leads w.workList := Writing.workWaiting_leads _ w

theorem Writing.rebuildWaiting_leads (w : Writing) : w.Leads w.rebuildWaiting :=
  ((Leads.move .refl rfl (stays_waiting _ _)).trans (Writing.foldl_leads _ (fun w _ => Writing.lookItem_leads _ _ w) _ _)).trans
    (Writing.foldl_leads _ (fun w n => Writing.finalCheck_leads n w) _ _)

theorem Writing.cancelPendingItem_leads (o i : Nat) (w : Writing) : w.Leads (w.cancelPendingItem o i) :=
  (Leads.move (Leads.write .refl (State.setItemEnd_sound _ _ _ _)) (State.raise_store _ _) (State.raise_stays _ _)).trans
    (Writing.lookItem_leads _ _ _)

theorem State.discardQueue_sound (s : State) : Sound s s.discardQueue :=
  (State.discardQueue_film s).sound (State.discardQueue_stays s)

theorem Writing.endActive_leads (o : Nat) (it : Item) (c : Bool) (w : Writing) : w.Leads (w.endActive o it c) :=
  (Leads.move (Leads.write (Leads.write (Leads.move .refl rfl (State.withCycle_stays _ _)) (State.discardQueue_sound _))
    (State.setItemEnd_sound _ _ _ _)) (State.raise_store _ _) (State.raise_stays _ _)).trans (Writing.lookItem_leads _ _ _)

theorem Writing.endCancelPending_leads (w : Writing) : w.Leads w.endCancelPending := by
  unfold Writing.endCancelPending
  split
  · split
    · exact Writing.endActive_leads _ _ _ w
    · exact .refl
  · exact .refl

theorem Writing.scanOrders_leads (l : List Nat) (w : Writing) : w.Leads (Writing.scanOrders l w).1 := by
  induction l generalizing w with
  | nil => exact .refl
  | cons n l ih =>
    have h : Sound w.now (w.now.offer n).1 := (State.offer_film n _).sound (State.offer_stays n _)
    unfold Writing.scanOrders
    split
    · rename_i t p e
      rw [e] at h
      exact .write (f := fun _ => t) .refl h
    · rename_i t e
      rw [e] at h
      exact (Leads.write (f := fun _ => t) .refl h).trans (ih _)

theorem Writing.select_leads (w : Writing) : w.Leads w.select := by
  unfold Writing.select
  have k := Writing.scanOrders_leads w.now.scanList w
  split
  · split
    · exact .move .refl (State.enterPlace_store _ _ _) (State.enterPlace_stays _ _ _)
    · split
      · rename_i e
        rw [e] at k
        exact .move k (State.enterPlace_store _ _ _) (State.enterPlace_stays _ _ _)
      · rename_i e
        rw [e] at k
        exact .move k rfl (State.enterWaiting_stays _ _)
  · exact .move .refl rfl (State.enterWaiting_stays _ _)

theorem Writing.selectIfWaiting_leads (w : Writing) : w.Leads w.selectIfWaiting := by
  unfold Writing.selectIfWaiting
  cases w.now.cycle.isWaiting
  · exact .refl
  · exact Writing.select_leads w

theorem Writing.cancelActive_leads (o : Nat) (it : Item) (w : Writing) : w.Leads (w.cancelActive o it) := by
  unfold Writing.cancelActive
  have k (c : CycleState) (e : w.now.cycle.state = c) (h : c = .exposing ∨ c = .winding) : Sound w.now (w.now.cancelActive o it).1 := by
    subst c
    unfold State.cancelActive
    rcases h with h | h <;> rw [h] <;> exact State.updateItem_sound _ _ _ _
  split
  · exact .write .refl (k _ ‹_› (.inl rfl))
  · exact .write .refl (k _ ‹_› (.inr rfl))
  · exact ((Leads.move .refl rfl (State.withdrawMetering_stays _)).trans (Writing.endActive_leads _ _ _ _)).trans
      (Writing.select_leads _)
  · exact (Writing.endActive_leads _ _ _ _).trans (Writing.select_leads _)
  · exact (Writing.endActive_leads _ _ _ _).trans (Writing.select_leads _)
  · exact Writing.endActive_leads _ _ _ _
  · exact Writing.endActive_leads _ _ _ _
  · exact .move (Writing.endActive_leads _ _ _ _) rfl (State.enterStopped_stays _)

theorem Writing.cancelPendings_leads (o : Order) (w : Writing) : w.Leads (w.cancelPendings o) :=
  Writing.foldl_leads _ (fun w _ => Writing.cancelPendingItem_leads _ _ w) _ _

theorem Writing.release_leads (a : Nat) (w : Writing) : w.Leads (w.release a) := by
  unfold Writing.release
  cases w.now.releasesAny a
  · exact .refl
  · refine (Leads.writes .refl fun p hp => ?_).trans (Writing.selectIfWaiting_leads _)
    rcases List.mem_cons.mp hp with rfl | hp
    · exact ⟨State.setBook_sound _ _, rfl⟩
    · obtain ⟨k, -, rfl⟩ := List.mem_map.mp hp
      exact ⟨State.setBook_sound _ _, rfl⟩

/-- R109: a fault outcome halts the cycle. -/
theorem Writing.reportFault_leads (c : HaltCause) (w : Writing) : w.Leads (w.reportFault c) := by
  unfold Writing.reportFault
  cases w.now.cycle.state == CycleState.exposing
  · exact .refl
  · exact .move (Writing.endCancelPending_leads w) (State.halt_store _ _) (State.halt_stays _ _)

theorem State.clearMarker_film (s : State) : SameFilm s s.clearMarker := ⟨rfl, rfl⟩
theorem State.shutterIdle_film (m : Option Nat) (s : State) : SameFilm s (s.shutterIdle m) := ⟨rfl, rfl⟩

theorem State.spoilFrame_stays (k : FrameCause) (c : Context) (m : Option Nat) (s : State) : Stays s (s.spoilFrame k c m) := by
  unfold State.spoilFrame
  split
  · exact State.setFrame_stays _ s
  · exact Stays.refl s

theorem State.exposeFrame_stays (c : Context) (m : Nat) (s : State) : Stays s (s.exposeFrame c m) := by
  unfold State.exposeFrame
  split
  · exact State.setFrame_stays _ s
  · exact Stays.refl s

/-- Changes that are the parts of one write, or the write itself. -/
theorem Writing.Leads.parts {w : Writing} {l : List (State → State)} {f : State → State}
    (h : ∀ p ∈ f :: l, SameFilm w.now (p w.now) ∧ Stays w.now (p w.now)) : w.Leads (w.writes l f) :=
  .writes .refl fun p hp => ⟨(h p hp).1.sound (h p hp).2, (h p hp).1.frames⟩

theorem Writing.outcomeLamp_leads (c : Context) (w : Writing) : w.Leads (w.outcomeLamp c) := by
  refine (Leads.trans (Leads.parts fun p hp => ?_) (Writing.lookItem_leads _ _ _)).trans (Writing.reportFault_leads _ _)
  simp only [List.mem_cons, List.not_mem_nil, or_false] at hp
  rcases hp with rfl | rfl | rfl
  · exact ⟨((((State.spoilGate_film _ _ _ _).trans (State.setStep_film _ _ _)).trans (State.discardQueue_film _)).trans
        (State.clearMarker_film _)).trans (State.shutterIdle_film _ _),
      ((((State.spoilGate_stays _ _ _ _).trans (State.setStep_stays _ _ _)).trans (State.discardQueue_stays _)).trans
        (State.clearMarker_stays _)).trans (State.shutterIdle_stays _ _)⟩
  · exact ⟨((State.spoilFrame_film _ _ _ _).trans (State.setStep_film _ _ _)).trans (State.clearMarker_film _),
      ((State.spoilFrame_stays _ _ _ _).trans (State.setStep_stays _ _ _)).trans (State.clearMarker_stays _)⟩
  · exact ⟨((State.spoilGate_film _ _ _ _).trans (State.setStep_film _ _ _)).trans (State.clearMarker_film _),
      ((State.spoilGate_stays _ _ _ _).trans (State.setStep_stays _ _ _)).trans (State.clearMarker_stays _)⟩

theorem Writing.outcomeShutOpen_leads (c : Context) (w : Writing) : w.Leads (w.outcomeShutOpen c) :=
  ((Leads.move .refl rfl ((State.returnContext_stays _ _ _).trans (State.shutterIdle_stays _ _))).trans
    (Writing.lookItem_leads _ _ _)).trans (Writing.reportFault_leads _ _)

theorem Writing.outcomeShutClose_leads (c : Context) (m : Option Nat) (d : Bool) (w : Writing) :
    w.Leads (w.outcomeShutClose c m d) := by
  refine (Leads.trans (Leads.parts fun p hp => ?_) (Writing.lookItem_leads _ _ _)).trans (Writing.reportFault_leads _ _)
  simp only [List.mem_cons, List.not_mem_nil, or_false] at hp
  rcases hp with rfl | rfl
  · exact ⟨(((State.spoilGate_film _ _ _ _).trans (State.returnContext_film _ _ _)).trans (State.clearMarker_film _)).trans
        (State.shutterIdle_film _ _),
      (((State.spoilGate_stays _ _ _ _).trans (State.returnContext_stays _ _ _)).trans (State.clearMarker_stays _)).trans
        (State.shutterIdle_stays _ _)⟩
  · exact ⟨((State.spoilFrame_film _ _ _ _).trans (State.returnContext_film _ _ _)).trans (State.clearMarker_film _),
      ((State.spoilFrame_stays _ _ _ _).trans (State.returnContext_stays _ _ _)).trans (State.clearMarker_stays _)⟩

theorem Writing.beginExposure_leads (w : Writing) : w.Leads w.beginExposure := by
  unfold Writing.beginExposure
  split
  · rename_i hc hp
    split
    · exact (Leads.move .refl rfl (Quiet.stays (by constructor <;> first | exact Nat.le_refl _ | rfl))).trans
        (Writing.outcomeShutClose_leads _ _ _ _)
    · rename_i ho
      exact .move .refl (by simp only [State.beginExposure, hc, hp, ho]; rfl) (State.beginExposure_stays _)
  · exact .refl

theorem Writing.enterExposing_leads (w : Writing) : w.Leads w.enterExposing :=
  (Leads.move .refl rfl (State.withCycle_stays _ _)).trans (Writing.beginExposure_leads _)

theorem Writing.exposeOrWarm_leads (l : Light) (w : Writing) : w.Leads (w.exposeOrWarm l) := by
  unfold Writing.exposeOrWarm
  split
  · exact Writing.enterExposing_leads w
  · exact .move .refl rfl (State.enterWarmup_stays _ _)

theorem State.fill_sound (src : FillLight) (s : State) : Sound s (s.fill src) := (State.fill_film src s).sound (State.fill_stays src s)

theorem Writing.fillManual_leads (it : Item) (w : Writing) : w.Leads (w.fillManual it) := by
  unfold Writing.fillManual
  split
  · exact .write .refl (State.fill_sound _ _)
  · exact .refl

theorem State.meterOrWarm_store (it : Item) (s : State) : (s.meterOrWarm it).store = s.store := by
  unfold State.meterOrWarm
  split
  · unfold State.enterMetering State.askMetering
    split <;> rfl
  · rfl

theorem Writing.forwardAtGate_leads (w : Writing) : w.Leads w.forwardAtGate := by
  unfold Writing.forwardAtGate
  split
  · exact .refl
  · rename_i it _
    dsimp only
    refine (Writing.fillManual_leads it w).trans ?_
    split
    · exact Writing.exposeOrWarm_leads _ _
    · split
      · exact .refl
      · exact .move .refl (State.meterOrWarm_store _ _) (State.meterOrWarm_stays _ _)

theorem Writing.windingPositioned_leads (w : Writing) : w.Leads w.windingPositioned := by
  unfold Writing.windingPositioned
  refine (Writing.endCancelPending_leads w).trans ?_
  dsimp only
  split
  · exact .move .refl rfl (State.enterStopped_stays _)
  · split
    · exact Writing.select_leads _
    · exact Writing.forwardAtGate_leads _

theorem Writing.windingEnd_leads (e : AdvanceEnd) (w : Writing) : w.Leads (w.windingEnd e) := by
  unfold Writing.windingEnd
  split
  · split
    · exact Writing.windingPositioned_leads w
    · split
      · exact .move (Writing.endCancelPending_leads w) (State.halt_store _ _) (State.halt_stays _ _)
      · exact .refl
  · exact .refl

theorem Writing.windEnd_leads (e : AdvanceEnd) (w : Writing) : w.Leads (w.windEnd e) := by
  unfold Writing.windEnd
  split
  · exact Writing.selectIfWaiting_leads w
  · rename_i ne
    refine .move .refl ?_ (State.windEnd_stays _ _)
    unfold State.windEnd
    split
    · exact absurd rfl ne
    · split
      · exact State.raise_store _ _
      · rfl

/-- The open roll is in the directory, and open. -/
theorem State.openRoll_mem {s : State} {r : Roll} (h : s.openRoll = some r) : r ∈ s.store.rolls ∧ r.isOpen = true :=
  ⟨List.mem_of_find?_eq_some h, List.find?_some h⟩

/-- The record of the open roll is rewritten under its number. -/
theorem State.setRoll_sound {q : Roll} (r : Roll) {s : State} (h : s.openRoll = some q) (number : r.number = q.number) :
    Sound s (s.setRoll r) :=
  ⟨State.setRoll_stays r s, State.setRoll_directory q r s (State.openRoll_mem h).1 number fun _ => (State.openRoll_mem h).2,
    Nat.le_succ _⟩

theorem Sound.notice {s t : State} (h : Sound s t) (n : Notice) : Sound s (t.raise n) :=
  ⟨h.stays.trans (State.raise_stays n t), fun k => DirectoryWf.of_rolls (by rw [State.raise_store]) (h.directory k),
    by rw [State.raise_store]; exact h.frames⟩

theorem Sound.refl (s : State) : Sound s s := ⟨Stays.refl s, id, Nat.le_succ _⟩

theorem Writing.threadingEnd_leads (e : AdvanceEnd) (w : Writing) : w.Leads (w.threadingEnd e) := by
  unfold Writing.threadingEnd
  split
  · exact Writing.selectIfWaiting_leads w
  · rename_i ne
    refine .write .refl ?_
    unfold State.threadingEnd
    split
    · exact absurd rfl ne
    · split
      · rename_i f r _ h
        split
        · exact (State.setRoll_sound { r with fault := some f } h rfl).notice _
        · exact .refl _
      · exact .refl _

theorem Writing.reportAdvance_leads (q : Requester) (e : AdvanceEnd) (w : Writing) : w.Leads (w.reportAdvance q e) := by
  cases q
  · exact Writing.windingEnd_leads e w
  · exact Writing.windEnd_leads e w
  · exact Writing.threadingEnd_leads e w

theorem Writing.failAdvance_leads (e : AdvanceEnd) (w : Writing) : w.Leads (w.failAdvance e) := by
  unfold Writing.failAdvance
  split
  · exact .refl
  · exact (Leads.move .refl rfl (State.endAdvance_stays _)).trans (Writing.reportAdvance_leads _ _ _)

theorem State.changeRoll_sound {r : Roll} {s : State} (st : RollState) (h : s.openRoll = some r) : Sound s (s.changeRoll r st) :=
  (State.setRoll_sound { r with state := st } h rfl).notice _

theorem Writing.endRoll_leads (q : Requester) (r : Roll) (w : Writing) (h : w.now.openRoll = some r) : w.Leads (w.endRoll q r) :=
  (Leads.write (Leads.move .refl rfl (State.endAdvance_stays _)) (State.changeRoll_sound _ h)).trans
    (Writing.reportAdvance_leads _ _ _)

theorem Writing.endOpenRoll_leads (q : Requester) (w : Writing) : w.Leads (w.endOpenRoll q) := by
  unfold Writing.endOpenRoll
  split
  · exact Writing.endRoll_leads _ _ w ‹_›
  · exact .move .refl rfl (State.endAdvance_stays _)

theorem State.createFrame_store (r : Roll) (st : FrameState) (g : Option Int) (c : Option FrameCause) (n : Bool) (s : State) :
    (s.createFrame r st g c n).store = { s.store with
      frames := s.store.frames ++ [newFrame r.number (r.frameCount + 1) st g c]
      rolls := replaceRoll r.gain s.store.rolls } := by
  unfold State.createFrame
  dsimp only
  split
  · exact State.raise_store _ _
  · rfl

theorem State.createFrame_sound {r : Roll} {s : State} (st : FrameState) (g : Option Int) (c : Option FrameCause) (n : Bool)
    (h : s.openRoll = some r) (room : s.store.frames.length < Config.maxFrames) : Sound s (s.createFrame r st g c n) := by
  refine ⟨State.createFrame_stays r st g c n s room, fun k => ?_, ?_⟩
  · exact DirectoryWf.of_rolls (s := s.setRoll r.gain) (by rw [State.createFrame_store]; rfl)
      ((State.setRoll_sound r.gain h rfl).directory k)
  · rw [State.createFrame_store]
    simp

theorem Writing.createPositioned_leads (r : Roll) (c : Int) (n : Bool) (w : Writing) (h : w.now.openRoll = some r)
    (room : w.now.store.frames.length < Config.maxFrames) : w.Leads (w.createPositioned r c n) := by
  have first : Sound w.now (w.now.readStop.createFrame r .positioned (some c) none n) := by
    have k := State.createFrame_sound (s := w.now.readStop) .positioned (some c) none n h room
    exact ⟨(State.readStop_stays _).trans k.stays, fun d => k.directory ((State.readStop_sound _).directory d), k.frames⟩
  unfold Writing.createPositioned
  dsimp only
  split
  · refine .write (.write (.write .refl first) ?_) ((State.compareReload_film _ _).sound (State.compareReload_stays _ _))
    refine Sound.notice (t := State.setRoll { r.gain with state := .loaded } _) ?_ _
    refine ⟨State.setRoll_stays _ _, State.setRoll_directory r.gain _ _ ?_ rfl fun _ => ?_, Nat.le_succ _⟩
    · show r.gain ∈ (w.now.readStop.createFrame r .positioned (some c) none n).store.rolls
      rw [State.createFrame_store]
      exact List.mem_map.mpr ⟨r, (State.openRoll_mem h).1, by simp [Roll.gain]⟩
    · exact (State.openRoll_mem h).2
  · exact .write .refl first

theorem Writing.judgeStop_leads (q : Requester) (d : Int) (n : Bool) (w : Writing) : w.Leads (w.judgeStop q d n).1 := by
  unfold Writing.judgeStop
  dsimp only
  split
  · exact .write (f := fun s => s.readStop.endAdvance) .refl
      ((⟨rfl, rfl⟩ : SameFilm w.now w.now.readStop.endAdvance).sound
        ((State.readStop_stays _).trans (State.endAdvance_stays w.now.readStop)))
  · rename_i r h
    split
    · exact (Leads.write .refl (State.readStop_sound _)).trans (Writing.endRoll_leads _ _ _ h)
    · split
      · exact (Leads.move (Leads.write .refl (State.readStop_sound _)) rfl (State.endAdvance_stays _)).trans
          (Writing.reportAdvance_leads _ _ _)
      · rename_i hf
        split
        · exact (Leads.move (Writing.createPositioned_leads _ _ _ w h (State.freeRecords_ne hf)) rfl
            (State.endAdvance_stays _)).trans (Writing.reportAdvance_leads _ _ _)
        · refine .write (f := fun s => s.readStop.createFrame r .void none (some .misreg) n) .refl ?_
          have k := State.createFrame_sound (s := w.now.readStop) .void none (some .misreg) n h (State.freeRecords_ne hf)
          exact ⟨(State.readStop_stays _).trans k.stays, fun d => k.directory ((State.readStop_sound _).directory d), k.frames⟩

/-- Work that may go on after a judged stop. -/
theorem Writing.goOn_leads {w : Writing} (p : Writing × Bool) (f : Writing → Writing) (hf : ∀ u : Writing, u.Leads (f u)) :
    w.Leads p.1 → w.Leads (match p with
      | (u, true) => f u
      | (u, false) => u) := by
  obtain ⟨u, b⟩ := p
  intro h
  cases b
  · exact h
  · exact h.trans (hf u)

theorem State.beginStepping_store (q : Requester) (d : Int) (n : Bool) (s : State) : (s.beginStepping q d n).store = s.store := rfl

theorem Writing.takeAim_leads (fuel : Nat) (q : Requester) (w : Writing) : w.Leads (Writing.takeAim fuel q w) := by
  induction fuel generalizing w with
  | zero => exact .refl
  | succ m ih =>
    unfold Writing.takeAim
    split
    · exact .move .refl rfl (State.endAdvance_stays _)
    · rename_i r h
      split
      · exact Writing.endRoll_leads _ _ w h
      · split
        · exact (Leads.move .refl rfl (State.endAdvance_stays _)).trans (Writing.reportAdvance_leads _ _ _)
        · rename_i hf
          dsimp only
          split
          · exact (Leads.write .refl (State.createFrame_sound _ _ _ _ h (State.freeRecords_ne hf))).trans (ih _)
          · exact (Leads.write .refl (State.createFrame_sound _ _ _ _ h (State.freeRecords_ne hf))).trans (ih _)
          · split
            · exact .move .refl rfl (State.beginStepping_stays _ _ _ _)
            · split
              · refine Writing.goOn_leads _ _ ih ?_
                exact (Leads.move .refl rfl (State.beginSettle_stays _ _ _ _)).trans (Writing.judgeStop_leads _ _ _ _)
              · exact .move .refl rfl (State.beginSettle_stays _ _ _ _)

theorem Writing.aim_leads (q : Requester) (w : Writing) : w.Leads (w.aim q) := Writing.takeAim_leads _ q w

theorem Writing.settleEnd_leads (a : Advance) (w : Writing) : w.Leads (w.settleEnd a) := by
  unfold Writing.settleEnd
  exact Writing.goOn_leads _ _ (Writing.aim_leads _) (Writing.judgeStop_leads _ _ _ w)

theorem State.rebuildLimit_store (r : Roll) (s : State) : (s.rebuildLimit r).store = s.store := by
  unfold State.rebuildLimit
  split <;> rfl

theorem Writing.startAdvance_leads (q : Requester) (w : Writing) : w.Leads (w.startAdvance q) := by
  unfold Writing.startAdvance
  split
  · split
    · exact .refl
    · split
      · exact Writing.reportAdvance_leads _ _ w
      · exact (Leads.move .refl (State.rebuildLimit_store _ _) (State.rebuildLimit_stays _ _)).trans (Writing.aim_leads _ _)
  · exact .refl

theorem Writing.enterWinding_leads (w : Writing) : w.Leads w.enterWinding :=
  (Leads.move .refl rfl (State.withCycle_stays _ _)).trans (Writing.startAdvance_leads _ _)

theorem Writing.forward_leads (w : Writing) : w.Leads w.forward := by
  unfold Writing.forward
  split
  · exact .refl
  · rename_i it _
    dsimp only
    refine (Writing.fillManual_leads it w).trans ?_
    split
    · exact Writing.enterWinding_leads _
    · exact Writing.forwardAtGate_leads _

theorem Writing.settleAfterStop_leads (a : Advance) (w : Writing) : w.Leads (w.settleAfterStop a) := by
  unfold Writing.settleAfterStop
  dsimp only
  split
  · exact (Leads.move .refl rfl (Quiet.stays (by constructor <;> first | exact Nat.le_refl _ | rfl))).trans
      (Writing.settleEnd_leads _ _)
  · exact .move .refl rfl (Quiet.stays (by constructor <;> first | exact Nat.le_refl _ | rfl))

theorem Writing.stepExpiry_leads (a : Advance) (e : Option StepEnd) (w : Writing) : w.Leads (w.stepExpiry a e) := by
  have hd : w.Leads (w.move fun s => { s with transport := s.transport.driveStep }) :=
    .move .refl rfl (Quiet.stays (by constructor <;> first | exact Nat.le_refl _ | rfl))
  unfold Writing.stepExpiry
  dsimp only
  split
  · split
    · exact (Leads.move .refl rfl (Quiet.stays (by constructor <;> first | exact Nat.le_refl _ | rfl))).trans
        (Writing.failAdvance_leads _ _)
    · exact .move .refl rfl (Quiet.stays (by constructor <;> first | exact Nat.le_refl _ | rfl))
  · exact hd.trans (Writing.settleAfterStop_leads _ _)
  · exact hd.trans (Writing.endOpenRoll_leads _ _)
  · exact (Leads.move hd rfl (State.endAdvance_stays _)).trans (Writing.reportAdvance_leads _ _ _)

theorem Writing.limitInSettle_leads (w : Writing) : w.Leads w.limitInSettle := by
  unfold Writing.limitInSettle
  split
  · split
    · exact Writing.endOpenRoll_leads _ w
    · exact .refl
  · exact .refl

theorem raiseMarks_store (l : List Mark) (s : State) : (raiseMarks l s).store = s.store := by
  unfold raiseMarks
  induction l generalizing s with
  | nil => rfl
  | cons m l ih => exact (ih _).trans (State.raise_store _ _)

theorem Writing.countUp_leads (w : Writing) (h : ¬ Config.countMax ≤ w.now.transport.count) : w.Leads w.countUp := by
  have rise : w.Leads (w.move fun s => { s with transport := s.transport.rise }) := by
    refine .move .refl rfl (stays_moved _ w.now.transport.rise fun i => ?_)
    have := i.countLow
    simp only [Transport.rise]
    omega
  unfold Writing.countUp
  dsimp only
  refine .move ?_ (raiseMarks_store _ _) (raiseMarks_stays _ _)
  split
  · exact rise.trans (Writing.limitInSettle_leads _)
  · exact rise

theorem Writing.holdCount_leads (w : Writing) : w.Leads w.holdCount := by
  have held : w.Leads (w.move fun s => { s with transport := { s.transport with held := true } }) :=
    .move .refl rfl (Quiet.stays (by constructor <;> first | exact Nat.le_refl _ | rfl))
  unfold Writing.holdCount
  dsimp only
  split
  · rename_i r h
    exact (Leads.write held (State.setRoll_sound { r with positionValid := false } h rfl)).trans (Writing.failAdvance_leads _ _)
  · exact held.trans (Writing.failAdvance_leads _ _)

theorem Writing.countEvent_leads (up : Bool) (w : Writing) : w.Leads (w.countEvent up) := by
  unfold Writing.countEvent
  split
  · exact .refl
  · split
    · split
      · exact Writing.holdCount_leads w
      · exact Writing.countUp_leads w ‹_›
    · split
      · exact Writing.holdCount_leads w
      · exact .move .refl rfl (State.countDown_stays _ ‹_›)

theorem Writing.encoderChange_leads (a b a' b' : Bool) (w : Writing) : w.Leads (w.encoderChange a b a' b') := by
  unfold Writing.encoderChange
  split
  · exact Writing.countEvent_leads _ w
  · exact .refl

theorem Writing.stepTimer_leads (w : Writing) : w.Leads w.stepTimer := by
  unfold Writing.stepTimer
  repeat' split
  · exact Writing.stepExpiry_leads _ _ w
  · exact .refl
  · exact .refl

theorem Writing.settleTimer_leads (w : Writing) : w.Leads w.settleTimer := by
  unfold Writing.settleTimer
  repeat' split
  · exact Writing.settleEnd_leads _ w
  · exact .refl
  · exact .refl

theorem State.setIndex_stays (i : IndexCheck) (s : State) : Stays s (s.setIndex i) := stays_transport s _ rfl

theorem Writing.indexEdge_leads (w : Writing) : w.Leads w.indexEdge := by
  have other (h : w.now.indexEdge.store = w.now.store ∧ Stays w.now w.now.indexEdge) : w.Leads (w.move State.indexEdge) :=
    .move .refl h.1 h.2
  unfold Writing.indexEdge
  dsimp only
  split
  · rename_i h
    refine other ?_
    simp only [State.indexEdge, h]
    exact ⟨rfl, State.setIndex_stays _ _⟩
  · rename_i h
    split
    · split
      · exact (Leads.move .refl rfl (State.setIndex_stays _ _)).trans (Writing.failAdvance_leads _ _)
      · exact .move .refl rfl (State.setIndex_stays _ _)
    · rename_i ha
      refine other ?_
      simp only [State.indexEdge, h, ha]
      exact ⟨rfl, State.setIndex_stays _ _⟩

theorem Writing.countNormal_leads (r : ItemRef) (ask : Bool) (w : Writing) : w.Leads (w.countNormal r ask) := by
  unfold Writing.countNormal
  split
  · exact .refl
  · split
    · split
      · exact .write .refl (State.updateItem_sound _ _ _ _)
      · split
        · dsimp only
          split
          · exact .write (.write .refl (State.updateItem_sound _ _ _ _)) (State.fill_sound _ _)
          · exact .write .refl (State.updateItem_sound _ _ _ _)
        · exact (Leads.write .refl (State.updateItem_sound _ _ _ _)).trans (Writing.endActive_leads _ _ _ _)
    · exact .refl

theorem Writing.reportNormal_leads (r : ItemRef) (w : Writing) : w.Leads (w.reportNormal r) := by
  unfold Writing.reportNormal
  split
  · exact (Writing.countNormal_leads _ _ _).trans (Writing.enterWinding_leads _)
  · exact Writing.countNormal_leads _ _ _

theorem Writing.outcomeNormal_leads (c : Context) (w : Writing) : w.Leads (w.outcomeNormal c) := by
  refine (Leads.trans (Leads.parts fun p hp => ?_) (Writing.lookItem_leads _ _ _)).trans (Writing.reportNormal_leads _ _)
  simp only [List.mem_cons, List.not_mem_nil, or_false] at hp
  rcases hp with rfl | rfl
  · exact ⟨(((State.exposeGate_film _ _ _).trans (State.setStep_film _ _ _)).trans (State.clearMarker_film _)).trans
        (State.shutterIdle_film _ _),
      (((State.exposeGate_stays _ _ _).trans (State.setStep_stays _ _ _)).trans (State.clearMarker_stays _)).trans
        (State.shutterIdle_stays _ _)⟩
  · exact ⟨((State.exposeFrame_film _ _ _).trans (State.setStep_film _ _ _)).trans (State.clearMarker_film _),
      ((State.exposeFrame_stays _ _ _).trans (State.setStep_stays _ _ _)).trans (State.clearMarker_stays _)⟩

theorem Writing.closingDone_leads (p : Option PendingOutcome) (w : Writing) : w.Leads (w.closingDone p) := by
  unfold Writing.closingDone
  split
  · exact Writing.outcomeNormal_leads _ w
  · exact Writing.outcomeLamp_leads _ w
  · exact .move .refl rfl (State.shutterIdle_stays _ _)

theorem Writing.closingLate_leads (p : Option PendingOutcome) (b : Bool) (w : Writing) : w.Leads (w.closingLate p b) := by
  unfold Writing.closingLate
  split
  · exact Writing.outcomeShutClose_leads _ _ _ w
  · exact .move .refl rfl (State.shutterIdle_stays _ _)

theorem Writing.earlyClose_leads (w : Writing) : w.Leads w.earlyClose := by
  unfold Writing.earlyClose
  split
  · exact (Leads.move .refl rfl (State.closeCommand_stays _)).trans (Writing.outcomeNormal_leads _ _)
  · exact .refl

theorem Writing.contactCloses_leads (w : Writing) : w.Leads w.contactCloses := by
  have shut : w.Leads (w.move fun s => { s with shutter := { s.shutter with contactOpen := false } }) :=
    .move .refl rfl (stays_shutter _ _)
  unfold Writing.contactCloses
  dsimp only
  split
  · split
    · exact shut.trans (Writing.earlyClose_leads _)
    · exact shut.trans (Writing.closingDone_leads _ _)
    · exact shut
    · exact shut
  · exact .refl

theorem Writing.openTimeout_leads (w : Writing) : w.Leads w.openTimeout := by
  unfold Writing.openTimeout
  split
  · exact Writing.outcomeShutOpen_leads _ w
  · exact .refl

theorem Writing.closeTimeout_leads (w : Writing) : w.Leads w.closeTimeout := by
  unfold Writing.closeTimeout
  split
  · exact Writing.closingLate_leads _ _ w
  all_goals exact .refl

theorem State.abortAdvance_store (a : Advance) (e : Option StepEnd) (s : State) (h : s.transport.advance = some a)
    (p : a.phase = .stepping e) : s.abortAdvance.store = s.store := by
  unfold State.abortAdvance
  rw [h]
  dsimp only
  rw [p]

theorem Writing.abortAdvance_leads (w : Writing) : w.Leads w.abortAdvance := by
  unfold Writing.abortAdvance
  split
  · exact .refl
  · split
    · exact .move .refl (State.abortAdvance_store _ _ _ ‹_› ‹_›) (State.abortAdvance_stays _)
    · exact (Leads.move .refl rfl (State.endAdvance_stays _)).trans (Writing.reportAdvance_leads _ _ _)

theorem State.abortExposure_sound (s : State) : Sound s s.abortExposure :=
  (State.abortExposure_film s).sound (State.abortExposure_stays s)

theorem Writing.abortExposure_leads (w : Writing) : w.Leads w.abortExposure := by
  unfold Writing.abortExposure
  split
  · exact .refl
  · exact .write .refl (State.abortExposure_sound _)
  · split
    · refine Leads.parts fun p hp => ?_
      simp only [List.mem_cons, List.not_mem_nil, or_false] at hp
      rcases hp with rfl | rfl
      · exact ⟨State.abortExposure_film _, State.abortExposure_stays _⟩
      · exact ⟨((State.spoilFrame_film _ _ _ _).trans (State.setStep_film _ _ _)).trans (State.clearMarker_film _),
          ((State.spoilFrame_stays _ _ _ _).trans (State.setStep_stays _ _ _)).trans (State.clearMarker_stays _)⟩
    · exact .write .refl (State.abortExposure_sound _)
  · rename_i p b h
    refine .move .refl ?_ (State.abortExposure_stays _)
    unfold State.abortExposure
    rw [h]
    dsimp only
    split <;> rfl

theorem Writing.abortAll_leads (w : Writing) : w.Leads w.abortAll :=
  .move ((Leads.write ((Leads.move (Writing.abortAdvance_leads w) rfl (State.withdrawMetering_stays _)).trans
    (Writing.abortExposure_leads _)) (State.discardQueue_sound _)).trans (Writing.endCancelPending_leads _)) rfl
    (State.enterStopped_stays _)

theorem Writing.offerCalibration_leads (ch : Fin 4) (r : Nat) (w : Writing) : w.Leads (w.offerCalibration ch r) :=
  .write .refl ((State.offerCalibration_film _ _ _).sound (State.offerCalibration_stays _ _ _))

theorem Writing.completeMetering_leads (m : Metering) (n : Nat) (w : Writing) : w.Leads (w.completeMetering m n) := by
  have h (src : FillLight) : w.Leads ((w.move State.withdrawMetering).write (State.fill src)) :=
    .write (.move .refl rfl (State.withdrawMetering_stays _)) (State.fill_sound _ _)
  unfold Writing.completeMetering
  dsimp only
  split
  · exact .move (h _) rfl (State.enterStopped_stays _)
  · exact (h _).trans (Writing.forward_leads _)

theorem Writing.offerMetering_leads (was : Option Metering) (ch : Fin 4) (r : Nat) (w : Writing) :
    w.Leads (w.offerMetering was ch r) := by
  unfold Writing.offerMetering
  split
  · rename_i u m h
    split
    · split
      · exact Writing.completeMetering_leads _ _ w
      · rename_i e f
        refine .move .refl ?_ (State.offerMetering_stays _ _ _ _)
        simp only [State.offerMetering, h, e, f, ↓reduceIte]
    · exact .refl
  · exact .refl

theorem State.judgeWindows_store (ch : Fin 4) (r : Nat) (s : State) : (s.judgeWindows ch r).store = s.store := by
  unfold State.judgeWindows
  dsimp only
  split
  · split <;> rfl
  · rfl

theorem Writing.readingDone_leads (r : Nat) (w : Writing) : w.Leads (w.readingDone r) :=
  .move (((Leads.move .refl rfl (stays_meter _ _)).trans (Writing.offerCalibration_leads _ _ _)).trans
    (Writing.offerMetering_leads _ _ _ _)) (State.judgeWindows_store _ _ _) (State.judgeWindows_stays _ _ _)

theorem Writing.warmupDone_leads (w : Writing) : w.Leads w.warmupDone := by
  unfold Writing.warmupDone
  split
  · exact (Leads.move .refl rfl (State.withCycle_stays _ _)).trans (Writing.forward_leads _)
  · rename_i h
    refine .move .refl ?_ ?_
    · simp only [State.warmupDone, h]
      rfl
    · simp only [State.warmupDone, h]
      exact State.withCycle_stays _ _

/-! ## Labels, requests and resets -/

theorem State.checkRoll_sound (n : Nat) (s : State) : Sound s (s.checkRoll n) := by
  refine ⟨State.checkRoll_stays n s, fun k => ?_, ?_⟩
  · unfold State.checkRoll
    split
    · rename_i r h
      split
      · refine DirectoryWf.of_rolls (s := s.setRoll { r with state := .settled }) (by rw [State.changeRoll, State.raise_store]) ?_
        exact State.setRoll_directory r _ s (List.mem_of_find?_eq_some h) rfl (fun o => by simp [Roll.isOpen] at o) k
      · exact k
    · exact k
  · unfold State.checkRoll
    split
    · split
      · rw [State.changeRoll, State.raise_store]
        exact Nat.le_succ _
      · exact Nat.le_succ _
    · exact Nat.le_succ _

theorem Writing.printedFrame_leads (f : Frame) (w : Writing) : w.Leads (w.printedFrame f) := by
  have k : w.Leads (w.write (State.markPrinted f)) := .write .refl ((State.markPrinted_film _ _).sound (State.markPrinted_stays _ _))
  unfold Writing.printedFrame
  dsimp only
  split
  · exact .write (k.trans (Writing.lookItem_leads _ _ _)) (State.checkRoll_sound _ _)
  · exact .write k (State.checkRoll_sound _ _)

theorem State.afterLabel_store (h : LabelHand) (s : State) : (s.afterLabel h).store = s.store := by
  unfold State.afterLabel
  dsimp only
  split
  · unfold State.startHead State.startLabel
    split
    · dsimp only
      split
      · exact State.raise_store _ _
      · rfl
    · rfl
  · exact State.raise_store _ _

theorem Writing.completeLabel_leads (h : LabelHand) (w : Writing) : w.Leads (w.completeLabel h) := by
  have k : w.Leads (w.move (State.withPrinter fun p => { p with rows := Config.presentRows })) :=
    .move .refl rfl (withPrinter_stays _ _ (Nat.le_refl _))
  unfold Writing.completeLabel
  dsimp only
  refine .move ?_ (State.afterLabel_store _ _) (State.afterLabel_stays _ _)
  split
  · split
    · exact k.trans (Writing.printedFrame_leads _ _)
    · exact .move k rfl (withPrinter_stays _ _ (by simp))
  · exact k

theorem Writing.presentRow_leads (w : Writing) : w.Leads w.presentRow := by
  unfold Writing.presentRow
  split
  · rename_i h k
    split
    · exact Writing.completeLabel_leads _ w
    · rename_i e
      have q : w.now.presentRow = w.now.withPrinter fun p => { p with rows := p.rows + 1 } := by
        simp only [State.presentRow, h, k, e, ↓reduceIte]
      exact .move .refl (by rw [q]; rfl) (by rw [q]; exact withPrinter_stays _ _ (Nat.le_refl _))
  · exact .refl

theorem Writing.unload_leads (w : Writing) : w.Leads w.unload := by
  unfold Writing.unload
  split
  · rename_i r h
    have open' : (w.now.voidGate .unload).openRoll = some r := by
      rw [← h]
      exact congrArg (List.find? Roll.isOpen) (State.voidGate_film .unload w.now).rolls
    refine .move (.write (.write .refl ((State.voidGate_film _ _).sound (State.voidGate_stays _ _))) (State.changeRoll_sound _ open'))
      ?_ ?_
    · unfold State.gateLost
      split <;> rfl
    · unfold State.gateLost
      split
      · exact State.enterWaiting_stays _ _
      · exact State.enterWaiting_stays _ _
      · exact Stays.refl _
  · exact .refl

theorem Writing.decide_leads (r : ItemRef) (named : Frame → Bool) (w : Writing) : w.Leads (w.decide r named) := by
  unfold Writing.decide
  refine ((Leads.write (Leads.write .refl ?_) (State.updateItem_sound _ _ _ _)).trans (Writing.lookItem_leads _ _ _)).trans
    (Writing.foldl_leads _ (fun w n => .write .refl (State.checkRoll_sound n w.now)) _ _)
  refine SameFilm.sound ⟨rfl, by simp [decideFrames]⟩ (Quiet.stays ?_)
  constructor <;> simp [decideFrames]

theorem Writing.pick_leads (frames : List (Int × Int)) (named : Frame → Bool) (w : Writing) : w.Leads (w.pick frames named) := by
  unfold Writing.pick
  split
  · exact Writing.decide_leads _ _ w
  · exact .refl

theorem Writing.wind_leads (w : Writing) : w.Leads w.wind :=
  (Leads.write .refl ((State.voidGate_film _ _).sound (State.voidGate_stays _ _))).trans (Writing.startAdvance_leads _ _)

theorem Writing.post_leads (order : Int) (w : Writing) : w.Leads (w.post order) := by
  unfold Writing.post
  split
  · exact (Leads.write .refl (State.setBook_sound _ _)).trans (Writing.selectIfWaiting_leads _)
  · exact .refl

theorem Writing.free_leads (order : Int) (w : Writing) : w.Leads (w.free order) := by
  unfold Writing.free
  split
  · exact (Leads.write .refl (State.setBook_sound _ _)).trans (Writing.selectIfWaiting_leads _)
  · exact .refl

theorem Writing.cancelOrder_leads (order : Int) (w : Writing) : w.Leads (w.cancelOrder order) := by
  unfold Writing.cancelOrder
  split
  · split
    · exact .write .refl (State.removeOrder_sound _ _)
    · dsimp only
      split
      · exact (Writing.cancelPendings_leads _ _).trans (Writing.cancelActive_leads _ _ _)
      · exact Writing.cancelPendings_leads _ _
  · exact .refl

theorem Writing.cancelItem_leads (order item : Int) (w : Writing) : w.Leads (w.cancelItem order item) := by
  unfold Writing.cancelItem
  split
  · split
    · exact Writing.cancelActive_leads _ _ w
    · exact Writing.cancelPendingItem_leads _ _ w
  · exact .refl

theorem State.resumeItem_keeps (o : Order) (it : Item) (s : State) :
    (s.resumeItem o it).store = s.store ∧ Stays s (s.resumeItem o it) := by
  unfold State.resumeItem
  split
  · exact ⟨State.enterPlace_store _ _ _, State.enterPlace_stays _ _ _⟩
  · exact ⟨rfl, State.enterWarmup_stays _ _⟩

/-- R115: where a RSUM leads an ACTIVE item, without an advance. -/
theorem State.resume_keeps (c : HaltCause) (s : State) (h : s.active.isNone = false)
    (g : (c == .tableFull && s.gateFrame.isNone) = false) : (s.resume c).store = s.store ∧ Stays s (s.resume c) := by
  obtain ⟨p, e⟩ := Option.isSome_iff_exists.mp (Option.isNone_eq_false_iff.mp h)
  cases c with
  | tableFull =>
    have g' : s.gateFrame.isNone = false := by simpa using g
    simp only [State.resume, e, g']
    exact State.resumeItem_keeps _ _ s
  | rollEnd => simpa only [State.resume, e] using State.resumeItem_keeps _ _ s
  | jam => simpa only [State.resume, e] using State.resumeItem_keeps _ _ s
  | slip => simpa only [State.resume, e] using State.resumeItem_keeps _ _ s
  | lamp => simpa only [State.resume, e] using ⟨rfl, State.enterWarmup_stays _ s⟩
  | shutOpen => simpa only [State.resume, e] using ⟨rfl, State.enterWarmup_stays _ s⟩
  | shutClose => simpa only [State.resume, e] using ⟨rfl, State.enterWarmup_stays _ s⟩

theorem Writing.resume_leads (w : Writing) : w.Leads w.resume := by
  unfold Writing.resume
  split
  · split
    · exact Writing.enterWinding_leads w
    · rename_i g
      split
      · exact Writing.select_leads w
      · rename_i h
        have k := State.resume_keeps _ w.now (eq_false_of_ne_true h) (eq_false_of_ne_true g)
        exact .move .refl k.1 k.2
  · exact .refl

theorem State.updateAccount_sound (n : Nat) (f : Account → Account) (s : State) : Sound s (s.updateAccount n f) :=
  (State.updateAccount_film n f s).sound (State.updateAccount_stays n f s)

theorem Writing.zero_leads (account : Int) (w : Writing) : w.Leads (w.zero account) := by
  unfold Writing.zero
  split
  · exact (Leads.write .refl (State.updateAccount_sound _ _ _)).trans (Writing.release_leads _ _)
  · exact .refl

theorem Writing.take_leads (n : Int) (w : Writing) : w.Leads (w.take n) := by
  unfold Writing.take
  dsimp only
  split
  · exact .refl
  · refine (Leads.write .refl (SameFilm.sound ⟨rfl, rfl⟩ (Quiet.stays ?_))).trans (Writing.workList_leads _)
    constructor <;> simp [State.dropEntries]

theorem Writing.resetClosing_leads (w : Writing) : w.Leads w.resetClosing := by
  unfold Writing.resetClosing
  split
  · exact Writing.closingDone_leads _ w
  all_goals exact .refl

theorem State.clearQueued_film (s : State) : SameFilm s s.clearQueued := ⟨rfl, by simp [State.clearQueued]⟩

theorem State.clearQueued_stays (s : State) : Stays s s.clearQueued :=
  Quiet.stays (by constructor <;> simp [State.clearQueued])

theorem State.reportFilmEnd_sound (s : State) : Sound s s.reportFilmEnd := by
  unfold State.reportFilmEnd
  split
  · rename_i r h
    split
    · exact State.setRoll_sound { r with tail := some s.store.conf.tail } h rfl
    · exact .refl s
  · exact .refl s

theorem State.readFilmEnd_frames (s : State) : s.readFilmEnd.store.frames = s.store.frames := by
  unfold State.readFilmEnd State.reportFilmEnd
  repeat' split
  all_goals rfl

theorem State.resetBlocks_sound (s : State) : Sound s s.resetBlocks ∧ s.resetBlocks.store.frames.length = s.store.frames.length := by
  have h (t : State) (k : Stays s t) (e : t.store = s.store) :
      Sound s t.clearQueued.readFilmEnd ∧ t.clearQueued.readFilmEnd.store.frames.length = s.store.frames.length := by
    have c := ((SameFilm.of_store e).trans (State.clearQueued_film t)).sound (k.trans (State.clearQueued_stays t))
    have n : t.clearQueued.store.frames.length = s.store.frames.length := by rw [(State.clearQueued_film t).frames, e]
    have m := State.readFilmEnd_frames t.clearQueued
    refine ⟨?_, by rw [m]; exact n⟩
    unfold State.readFilmEnd at m ⊢
    split
    · have r := State.reportFilmEnd_sound t.clearQueued
      exact ⟨c.stays.trans r.stays, fun d => r.directory (c.directory d), by rw [if_pos ‹_›] at m; rw [m]; exact c.frames⟩
    · exact c
  exact h _ (Quiet.stays (by constructor <;> first | exact Nat.zero_le _ | exact Nat.le_refl _ | rfl)) rfl

theorem Writing.resetBlocks_leads (w : Writing) : w.Leads w.resetBlocks := by
  refine .writes .refl fun p hp => ?_
  simp only [List.mem_cons, List.not_mem_nil, or_false] at hp
  rcases hp with rfl | rfl
  · exact State.resetBlocks_sound _
  · exact ⟨(State.clearQueued_film _).sound (State.clearQueued_stays _), (State.clearQueued_film _).frames⟩

theorem Writing.resetAll_leads (w : Writing) : w.Leads w.resetAll :=
  ((Writing.abortAll_leads w).trans (Writing.resetClosing_leads _)).trans (Writing.resetBlocks_leads _)

theorem State.setStartRecord_sound (f : StartRecord → StartRecord) (s : State) : Sound s (s.setStartRecord f) :=
  SameFilm.sound ⟨rfl, rfl⟩ (Quiet.stays (by constructor <;> first | exact Nat.le_refl _ | rfl))

theorem Writing.rset_leads (w : Writing) : w.Leads w.rset :=
  .write (.other ((Leads.other .refl rfl rfl rfl).trans (Writing.resetAll_leads _)) rfl rfl rfl) (State.setStartRecord_sound _ _)

theorem filter_split_length {α : Type} (p : α → Bool) (l : List α) :
    (l.filter p).length + (l.filter fun x => !p x).length = l.length := by
  induction l with
  | nil => rfl
  | cons a l ih => cases h : p a <;> simp [h] <;> omega

/-- R153: a new account that the table has room for. -/
theorem ownAcctWrite_new_sound (account : Int) (name : Text) (cls : Int) (allowance : Option (Option Int))
    (state : Option (Option AcctState)) (s : State) (h : s.account account.toNat = none) :
    Sound s (ownAcctWrite account name cls allowance state s).1 := by
  unfold ownAcctWrite
  split
  · exact .refl s
  · rw [h]
    dsimp only
    split
    · exact .refl s
    · rename_i room
      refine ⟨⟨rfl, rfl, rfl, rfl, rfl, rfl, fun _ => rfl, id, rfl, fun i => ⟨i.countLow, i.countHigh, i.stopLow, i.stopHigh⟩,
        fun i => ⟨i.conf, i.rolls, i.frames, ?_, i.journal, i.labels, i.density⟩⟩, DirectoryWf.of_rolls (s := s) rfl, Nat.le_succ _⟩
      have k := filter_split_length (fun x : Account => decide (x.number < account.toNat)) s.store.accounts
      have e : (s.store.accounts.filter fun x => !decide (x.number < account.toNat)) =
          s.store.accounts.filter fun x => decide (account.toNat ≤ x.number) := by
        refine List.filter_congr fun x _ => ?_
        by_cases l : x.number < account.toNat <;> simp [l, Nat.not_le.mpr, Nat.not_lt.mp]
      rw [e] at k
      simp only [State.setAccounts, insertAccount, newAccount, List.length_append, List.length_cons]
      change (s.store.accounts.filter fun x => decide (x.number < account.toNat)).length +
        ((s.store.accounts.filter fun x => decide (account.toNat ≤ x.number)).length + 1) ≤ Config.maxAccounts
      omega

theorem Writing.acctWrite_leads (account : Int) (name : Text) (cls : Int) (allowance : Option (Option Int))
    (state : Option (Option AcctState)) (w : Writing) :
    w.Leads (w.acctWrite (ownAcctWrite account name cls allowance state) account name cls allowance state) := by
  unfold Writing.acctWrite
  split
  · dsimp only
    split
    · exact (Leads.write .refl (State.updateAccount_sound _ _ _)).trans (Writing.release_leads _ _)
    · exact .write .refl (State.updateAccount_sound _ _ _)
  · exact .write .refl (ownAcctWrite_new_sound _ _ _ _ _ _ ‹_›)

/-- R15: a LOAD writes its roll, and its threading leads on from there. -/
theorem Writing.load_leads (film : Int) (length : Option Int) (w : Writing) :
    let r := w.now.newRoll film.toNat (length.map (clampNat 1 Config.maxRollFrames))
    (w.writes [fun s => { s with store := { s.store with rolls := s.store.rolls ++ [r], rollCounter := r.number } }]
      (State.loadRoll r)).Leads (w.load film length) :=
  Writing.startAdvance_leads _ _

/-- Every accepted request but LOAD leads on. -/
theorem Writing.accepted_leads (i : Instr) (w : Writing) (h : ∀ film length, i ≠ .load film length) : w.Leads (w.accepted i) := by
  have when (own : State → State × Answer) (v : Writing) (k : w.Leads v) : w.Leads (if (own w.now).2.accepts then v else w) := by
    cases (own w.now).2.accepts
    · exact .refl
    · exact k
  unfold Writing.accepted
  dsimp only
  split
  · exact absurd rfl (h _ _)
  · exact when _ _ (Writing.unload_leads w)
  · exact Writing.pick_leads _ _ w
  · exact Writing.pick_leads _ _ w
  · exact when _ _ (Writing.wind_leads w)
  · exact when _ _ (Writing.post_leads _ w)
  · exact when _ _ (Writing.free_leads _ w)
  · exact when _ _ (Writing.cancelOrder_leads _ w)
  · exact when _ _ (Writing.cancelItem_leads _ _ w)
  · exact when _ _ (Writing.select_leads w)
  · exact Writing.abortAll_leads w
  · exact when _ _ (Writing.resume_leads w)
  · exact when _ _ (Writing.acctWrite_leads _ _ _ _ _ w)
  · exact when _ _ (Writing.zero_leads _ w)
  · exact when _ _ (Writing.take_leads _ w)
  · exact when _ _ (Writing.abortAll_leads w)
  · exact Writing.rset_leads w
  all_goals exact .refl

theorem Writing.request_leads (i : Instr) (w : Writing) (h : ∀ film length, i ≠ .load film length) : w.Leads (w.request i) := by
  unfold Writing.request
  split
  · exact (Leads.other .refl (State.reserveTx_store _) (State.reserveTx_transport _) (State.reserveTx_printer _)).trans
      (Writing.accepted_leads i _ h)
  · exact .refl

/-- R183: a warm start writes its blocks' values, and leads on from there. -/
theorem Writing.warm_leads (w : Writing) : (w.writes [State.clearQueued] State.warmBlocks).Leads w.warm := by
  have item (v : Writing) : v.Leads v.warmItem := by
    unfold Writing.warmItem
    split
    · exact (Leads.write .refl (State.updateItem_sound _ _ _ _)).trans (Writing.endCancelPending_leads _)
    · exact .refl
  have gate (s : State) : Sound s s.treatGate := by
    unfold State.treatGate
    split
    · exact ((State.spoilGate_film _ _ _ s).trans (State.clearMarker_film _)).sound
        ((State.spoilGate_stays _ _ _ s).trans (State.clearMarker_stays _))
    · exact (State.voidGate_film _ s).sound (State.voidGate_stays _ s)
  exact .write (((Leads.write .refl (gate _)).trans (item _)).trans (Writing.rebuildWaiting_leads _)) (State.setStartRecord_sound _ _)

/-! ## What this means for the stores on the way -/

/-- What a store on the way from a state keeps of that state's invariants. -/
structure StoreKept (s : State) (st : Store) : Prop where
  stop : CountWf s → Config.countMin ≤ st.lastStop ∧ st.lastStop ≤ Config.countMax
  tables : TablesWf s → st.conf.wf = true ∧ st.rolls.length ≤ Config.maxRolls ∧ st.frames.length ≤ Config.maxFrames ∧
    st.accounts.length ≤ Config.maxAccounts ∧ st.journal.length ≤ Config.maxJournal ∧ densityOk st.density = true
  directory : DirectoryWf s → DirectoryWf { s with store := st }

/-- Each store of a list holds at most one frame record more than the one before it. -/
def Gains (l : List Store) : Prop :=
  ∀ p a b q, l = p ++ a :: b :: q → b.frames.length ≤ a.frames.length + 1

theorem Gains.single (a : Store) : Gains [a] := by
  intro p x y q e
  cases p with
  | nil => cases e
  | cons z p => cases p <;> cases e

theorem Gains.snoc {x b : Store} {l : List Store} (h : Gains (x :: l))
    (k : b.frames.length ≤ (l.getLast?.getD x).frames.length + 1) : Gains (x :: (l ++ [b])) := by
  intro p a c q e
  rw [← List.cons_append] at e
  rcases List.eq_nil_or_concat q with rfl | ⟨q', z, rfl⟩
  · rw [show p ++ [a, c] = (p ++ [a]) ++ [c] by simp] at e
    obtain ⟨e1, e2⟩ := List.append_inj' e rfl
    obtain rfl := List.singleton_inj.mp e2
    have : l.getLast?.getD x = a := by
      have g : (x :: l).getLast? = some a := by rw [e1, List.getLast?_concat]
      rw [List.getLast?_cons] at g
      exact Option.some.inj g
    rw [← this]
    exact k
  · rw [show p ++ a :: c :: (q'.concat z) = (p ++ a :: c :: q') ++ [z] by simp] at e
    exact h p a c q' (List.append_inj' e rfl).1

/-- Stores of the same number of frame records, one after the other. -/
theorem Gains.append {x : Store} {l k : List Store} (h : Gains (x :: l))
    (same : ∀ b ∈ k, b.frames.length = (l.getLast?.getD x).frames.length) :
    ((l ++ k).getLast?.getD x).frames.length = (l.getLast?.getD x).frames.length ∧ Gains (x :: (l ++ k)) := by
  induction k generalizing l with
  | nil => simpa using h
  | cons b k ih =>
    have e := same b (List.mem_cons_self ..)
    have last : (l ++ [b]).getLast?.getD x = b := by simp
    have := ih (h.snoc (b := b) (by rw [e]; exact Nat.le_succ _)) fun c hc => by
      rw [last, e]
      exact same c (List.mem_cons_of_mem _ hc)
    rw [last, e, List.append_assoc] at this
    exact this

/-- Work that leads on keeps the invariants, each store on the way keeps them, each write gains at most one frame record, and the
last write is the store as it stands. -/
structure Writing.Kept (w v : Writing) : Prop where
  count : CountWf w.now → CountWf v.now
  tables : TablesWf w.now → TablesWf v.now
  directory : DirectoryWf w.now → DirectoryWf v.now
  stores : ∀ st ∈ v.made, st ∈ w.made ∨ StoreKept w.now st
  last : ∀ a, w.made.getLast?.getD a = w.now.store → v.made.getLast?.getD a = v.now.store
  gains : ∀ a, w.made.getLast?.getD a = w.now.store → Gains (a :: w.made) → Gains (a :: v.made)

theorem Sound.kept {s t : State} (h : Sound s t) : StoreKept s t.store where
  stop := fun i => ⟨(h.stays.count i).stopLow, (h.stays.count i).stopHigh⟩
  tables := fun i =>
    let k := h.stays.tables i
    ⟨k.conf, k.rolls, k.frames, k.accounts, k.journal, k.density⟩
  directory := fun i => DirectoryWf.of_rolls (s := t) rfl (h.directory i)

theorem StoreKept.from {s t : State} {st : Store} (h : StoreKept t st) (count : CountWf s → CountWf t)
    (tables : TablesWf s → TablesWf t) (directory : DirectoryWf s → DirectoryWf t) : StoreKept s st where
  stop := fun i => h.stop (count i)
  tables := fun i => h.tables (tables i)
  directory := fun i => DirectoryWf.of_rolls (s := { t with store := st }) rfl (h.directory (directory i))

theorem Writing.Leads.kept {w v : Writing} (h : w.Leads v) : w.Kept v := by
  induction h with
  | refl => exact ⟨id, id, id, fun _ m => .inl m, fun _ e => e, fun _ _ g => g⟩
  | move _ store stays ih =>
    exact ⟨fun i => stays.count (ih.count i), fun i => stays.tables (ih.tables i),
      fun i => DirectoryWf.of_rolls (by rw [Writing.move_now, store]) (ih.directory i), ih.stores,
      fun a e => by rw [Writing.move_made, Writing.move_now, store, ih.last a e], ih.gains⟩
  | other _ store transport printer ih =>
    refine ⟨fun i => ?_, fun i => ?_, fun i => DirectoryWf.of_rolls (by rw [Writing.move_now, store]) (ih.directory i), ih.stores,
      fun a e => by rw [Writing.move_made, Writing.move_now, store, ih.last a e], ih.gains⟩
    · have k := ih.count i
      rw [Writing.move_now]
      exact ⟨by rw [transport]; exact k.countLow, by rw [transport]; exact k.countHigh, by rw [store]; exact k.stopLow,
        by rw [store]; exact k.stopHigh⟩
    · have k := ih.tables i
      rw [Writing.move_now]
      exact ⟨by rw [store]; exact k.conf, by rw [store]; exact k.rolls, by rw [store]; exact k.frames,
        by rw [store]; exact k.accounts, by rw [store]; exact k.journal, by rw [printer]; exact k.labels,
        by rw [store]; exact k.density⟩
  | write _ sound ih =>
    refine ⟨fun i => sound.stays.count (ih.count i), fun i => sound.stays.tables (ih.tables i),
      fun i => sound.directory (ih.directory i), fun st m => ?_, fun a _ => by simp,
      fun a e g => (ih.gains a e g).snoc (by rw [ih.last a e]; exact sound.frames)⟩
    rcases List.mem_append.mp m with m | m
    · exact ih.stores st m
    · rw [List.mem_singleton] at m
      subst m
      exact .inr (sound.kept.from ih.count ih.tables ih.directory)
  | writes _ sound ih =>
    have final := (sound _ (List.mem_cons_self ..)).1
    refine ⟨fun i => final.stays.count (ih.count i), fun i => final.stays.tables (ih.tables i),
      fun i => final.directory (ih.directory i), fun st m => ?_, fun a _ => by simp, fun a e g => ?_⟩
    rotate_left
    · refine (Gains.append (ih.gains a e g) fun st m => ?_).2.snoc ?_
      · rcases List.mem_map.mp m with ⟨p, hp, rfl⟩
        rw [ih.last a e]
        exact (sound p (List.mem_cons_of_mem _ hp)).2
      · rw [(Gains.append (ih.gains a e g) fun st m => ?_).1, ih.last a e, (sound _ (List.mem_cons_self ..)).2]
        · exact Nat.le_succ _
        · rcases List.mem_map.mp m with ⟨p, hp, rfl⟩
          rw [ih.last a e]
          exact (sound p (List.mem_cons_of_mem _ hp)).2
    simp only [Writing.writes_made, List.mem_append, List.mem_map, List.mem_singleton] at m
    rcases m with (m | ⟨p, hp, rfl⟩) | rfl
    · exact ih.stores st m
    · exact .inr ((sound p (List.mem_cons_of_mem _ hp)).1.kept.from ih.count ih.tables ih.directory)
    · exact .inr (final.kept.from ih.count ih.tables ih.directory)

/-! ## The commands -/

/-- The commands whose writes begin a roll or the store afresh: their work leads on from those writes (`Writing.load_leads`,
`Writing.warm_leads`). -/
def Instr.beginsAfresh : Instr → Bool
  | .load _ _ | .dispatch | .powerOn | .wipeColdStart => true
  | _ => false

theorem Writing.command_leads (i : Instr) (w : Writing) (h : Instr.beginsAfresh i = false) : w.Leads (w.command i) := by
  have live (v : Writing) (k : w.Leads v) : w.Leads (if w.now.live then v else w) := by
    cases w.now.live
    · exact .refl
    · exact k
  unfold Writing.command
  dsimp only
  split
  · exact live _ ((Leads.other .refl rfl rfl rfl).trans (Writing.encoderChange_leads _ _ _ _ _))
  · exact live _ (Writing.indexEdge_leads w)
  · exact live _ (Writing.stepTimer_leads w)
  · exact live _ (by split; exact Writing.stepTimer_leads w; exact .refl)
  · exact live _ (Writing.settleTimer_leads w)
  · split
    · exact live _ (Writing.readingDone_leads _ w)
    · exact .refl
  · exact live _ (by split; exact Writing.warmupDone_leads w; exact .refl)
  · exact live _ (Writing.openTimeout_leads w)
  · exact live _ ((Leads.other .refl rfl rfl rfl).trans (Writing.contactCloses_leads _))
  · exact live _ (Writing.closeTimeout_leads w)
  · exact live _ (Writing.presentRow_leads w)
  · exact live _ (by split; exact Writing.presentRow_leads w; exact .refl)
  · exact live _ (Writing.workList_leads w)
  · cases h
  · cases h
  · cases h
  · exact live _ (Writing.resetAll_leads w)
  all_goals try exact .refl
  exact Writing.request_leads _ w fun f l e => by rw [e] at h; cases h

/-- R179: what the stores on the way through a command keep: each holds at most one frame record more than the one before it, and
each keeps what the state kept. -/
theorem State.writesOf_kept (i : Instr) (s : State) (h : Instr.beginsAfresh i = false) :
    Gains (s.store :: s.writesOf i) ∧ ∀ st ∈ s.writesOf i, StoreKept s st := by
  have k := (Writing.command_leads i (Writing.begin s) h).kept
  refine ⟨k.gains s.store rfl (Gains.single _), fun st m => ?_⟩
  rcases k.stores st m with m | m
  · cases m
  · exact m

end Sys2Proof.Machine
end

