-- ==== Sys2Proof/Laws/Ends.lean ====
section
/-! SUPPORT. Where the writes of a command end, said once for every command (R179): the last of them leaves the store that `exec`
leaves. So a power-fail warning that falls after the last write of a step finds what the whole step would have left. -/

namespace Sys2Proof.Machine

theorem State.wake_store (s : State) : s.wake.store = s.store := by
  unfold State.wake State.chooseLine
  split
  · split <;> first | rfl | (split <;> rfl)
  · rfl

theorem State.placeReply_store (r : Reply) (s : State) : (s.placeReply r).store = s.store := State.wake_store _

/-- R170: a request that is taken leaves the store that its owner leaves. -/
theorem request_store (v : Verb) (own : State → State × Answer) {s t : State} (c : s.canTake = true)
    (h : request v own s = .next t) : t.store = (own s.reserveTx).1.store := by
  simp only [request, c, if_true, Host.Outcome.next.injEq] at h
  rw [← h, State.answer]
  dsimp only
  rw [State.placeReply_store]
  split <;> rfl

/-- R179: work that is made only when the request is accepted ends where the owner ends. -/
theorem Writing.when_ends (own : State → State × Answer) (v w : Writing) (made : w.made = [])
    (some : (if (own w.now).2.accepts then v else w).made ≠ [])
    (ends : (own w.now).2.accepts = true → v.now = (own w.now).1) :
    (if (own w.now).2.accepts then v else w).now.store = (own w.now).1.store := by
  cases h : (own w.now).2.accepts
  · simp [h, made] at some
  · simp [ends h]

/-- R179: a request ends where its owner ends. -/
theorem request_ends (i : Instr) (v : Verb) (own : State → State × Answer) {w : Writing} {t : State}
    (h : request v own w.now = .next t) (made : w.made = []) (some : (w.request i).made ≠ [])
    (ends : ∀ u : Writing, u.made = [] → (u.accepted i).made ≠ [] → (u.accepted i).now.store = (own u.now).1.store) :
    (w.request i).now.store = t.store := by
  unfold Writing.request at some ⊢
  cases c : w.now.canTake
  · simp [c, made] at some
  · simp only [c, if_true] at some ⊢
    rw [request_store v own c h]
    exact ends _ made some

/-! ## The owners -/

theorem ownLoad_ends (film : Int) (length : Option Int) (w : Writing) (h : (ownLoad film length w.now).2.accepts = true) :
    (w.load film length).now = (ownLoad film length w.now).1 := by
  rw [Writing.load_now]
  unfold ownLoad at h ⊢
  repeat' split at h
  all_goals try cases h
  rename_i a b c d
  rw [if_neg a, if_neg b, if_neg c, if_neg d]

theorem ownUnld_ends (w : Writing) (h : (ownUnld w.now).2.accepts = true) : w.unload.now = (ownUnld w.now).1 := by
  unfold ownUnld at h ⊢
  split at h
  · cases h
  · rename_i r e
    split at h
    · cases h
    · rw [Writing.unload_now r w e]
      simp_all

theorem ownWind_ends (w : Writing) (h : (ownWind w.now).2.accepts = true) : w.wind.now = (ownWind w.now).1 := by
  rw [Writing.wind_now]
  unfold ownWind at h ⊢
  repeat' split at h
  all_goals first | (cases h; done) | simp_all

theorem ownPost_ends (order : Int) (w : Writing) (h : (ownPost order w.now).2.accepts = true) :
    (w.post order).now = (ownPost order w.now).1 := by
  unfold ownPost at h ⊢
  unfold Writing.post
  repeat' split at h
  all_goals first | (cases h; done) | simp_all

theorem ownFree_ends (order : Int) (w : Writing) (h : (ownFree order w.now).2.accepts = true) :
    (w.free order).now = (ownFree order w.now).1 := by
  unfold ownFree at h ⊢
  unfold Writing.free
  repeat' split at h
  all_goals first | (cases h; done) | simp_all

theorem ownCnclOrder_ends (order : Int) (w : Writing) (h : (ownCnclOrder order w.now).2.accepts = true) :
    (w.cancelOrder order).now = (ownCnclOrder order w.now).1 := by
  unfold ownCnclOrder at h ⊢
  unfold Writing.cancelOrder
  split at h
  · cases h
  · rename_i r
    rw [if_neg r]
    split at h
    · cases h
    · rename_i o e
      simp only [e]
      split at h
      · rename_i b
        rw [if_pos b, if_pos b]
        rfl
      · rename_i b
        rw [if_neg b, if_neg b]
        split at h
        · cases h
        · rename_i n
          rw [if_neg n]
          cases o.activeItem <;> simp

theorem ownCnclItem_ends (order item : Int) (w : Writing) (h : (ownCnclItem order item w.now).2.accepts = true) :
    (w.cancelItem order item).now = (ownCnclItem order item w.now).1 := by
  unfold ownCnclItem at h ⊢
  unfold Writing.cancelItem
  split at h
  · cases h
  · rename_i r
    rw [if_neg r]
    split at h
    · cases h
    · rename_i o e
      split at h
      · cases h
      · rename_i it f
        simp only [e, f, Option.bind_some, Option.map_some]
        split at h
        · cases h
        · rename_i b
          rw [if_neg b]
          cases g : it.state <;> simp only [g] at h ⊢
          all_goals first | (cases h; done) | simp

theorem ownRun_ends (w : Writing) (h : (ownRun w.now).2.accepts = true) : w.select.now = (ownRun w.now).1 := by
  unfold ownRun at h ⊢
  split at h
  · cases h
  · rename_i r
    rw [if_neg r]
    simp

theorem ownRsum_ends (w : Writing) (h : (ownRsum w.now).2.accepts = true) : w.resume.now = (ownRsum w.now).1 := by
  unfold ownRsum at h ⊢
  unfold Writing.resume
  cases e : w.now.cycle.state <;> simp only [e] at h ⊢
  all_goals try cases h
  rename_i c r
  split at h
  · cases h
  · unfold State.resume
    repeat' split
    all_goals simp_all

theorem ownAcctWrite_ends (account : Int) (name : Text) (cls : Int) (allowance : Option (Option Int))
    (state : Option (Option AcctState)) (w : Writing)
    (h : (ownAcctWrite account name cls allowance state w.now).2.accepts = true) :
    (w.acctWrite (ownAcctWrite account name cls allowance state) account name cls allowance state).now =
      (ownAcctWrite account name cls allowance state w.now).1 := by
  unfold Writing.acctWrite
  split
  · rename_i a e
    unfold ownAcctWrite at h ⊢
    split at h
    · rename_i x g
      have refused : x.accepts = false := by
        unfold checkAccount at g
        repeat' split at g
        all_goals cases g
        all_goals rfl
      simp [refused] at h
    · simp only [e]
      unfold State.writeAccount
      dsimp only
      split <;> simp_all
  · rfl

theorem ownZero_ends (account : Int) (w : Writing) (h : (ownZero account w.now).2.accepts = true) :
    (w.zero account).now = (ownZero account w.now).1 := by
  unfold ownZero at h ⊢
  unfold Writing.zero
  repeat' split at h
  all_goals first | (cases h; done) | simp_all

theorem ownTake_ends (n : Int) (w : Writing) (h : (ownTake n w.now).2.accepts = true) :
    (w.take n).now = (ownTake n w.now).1 := by
  unfold ownTake at h ⊢
  unfold Writing.take
  split at h
  · cases h
  · rename_i r
    rw [if_neg r]
    dsimp only
    cases e : w.now.store.journal.take n.toNat <;> simp

theorem ownWipe_ends (all : Bool) (w : Writing) (h : (ownWipe all w.now).2.accepts = true) :
    w.abortAll.now.store = (ownWipe all w.now).1.store := by
  unfold ownWipe at h ⊢
  cases all
  · cases h
  · simp [State.startDiscard]

/-! ## The commands -/

/-- R170, R179: the writes of a request end where the request ends. -/
theorem takeRequest_ends (i : Instr) {w : Writing} {t : State} (h : takeRequest i w.now = .next t) (made : w.made = [])
    (some : (w.request i).made ≠ []) : (w.request i).now.store = t.store := by
  cases i
  case load f l => exact request_ends _ _ _ h made some fun u m e => Writing.when_ends _ _ u m e (ownLoad_ends f l u)
  case unld => exact request_ends _ _ _ h made some fun u m e => Writing.when_ends _ _ u m e (ownUnld_ends u)
  case pick l =>
    refine request_ends _ _ _ h made some fun u m e => ?_
    unfold Writing.accepted Writing.pick ownPick
    dsimp only
    cases u.now.checkPick l <;> simp
  case rjct r f =>
    refine request_ends _ _ _ h made some fun u m e => ?_
    unfold Writing.accepted Writing.pick ownRjct
    dsimp only
    cases u.now.checkPick [(r, f)] <;> simp
  case wind => exact request_ends _ _ _ h made some fun u m e => Writing.when_ends _ _ u m e (ownWind_ends u)
  case post o => exact request_ends _ _ _ h made some fun u m e => Writing.when_ends _ _ u m e (ownPost_ends o u)
  case free o => exact request_ends _ _ _ h made some fun u m e => Writing.when_ends _ _ u m e (ownFree_ends o u)
  case cnclOrder o => exact request_ends _ _ _ h made some fun u m e => Writing.when_ends _ _ u m e (ownCnclOrder_ends o u)
  case cnclItem o i => exact request_ends _ _ _ h made some fun u m e => Writing.when_ends _ _ u m e (ownCnclItem_ends o i u)
  case run => exact request_ends _ _ _ h made some fun u m e => Writing.when_ends _ _ u m e (ownRun_ends u)
  case abrt => exact request_ends _ _ _ h made some fun u m e => by simp [Writing.accepted, ownAbrt]
  case rsum => exact request_ends _ _ _ h made some fun u m e => Writing.when_ends _ _ u m e (ownRsum_ends u)
  case acctWrite a n c l s =>
    exact request_ends _ _ _ h made some fun u m e => Writing.when_ends _ _ u m e (ownAcctWrite_ends a n c l s u)
  case zero a => exact request_ends _ _ _ h made some fun u m e => Writing.when_ends _ _ u m e (ownZero_ends a u)
  case take n => exact request_ends _ _ _ h made some fun u m e => Writing.when_ends _ _ u m e (ownTake_ends n u)
  case wipe a =>
    refine request_ends _ _ _ h made some fun u m e => ?_
    unfold Writing.accepted at e ⊢
    dsimp only at e ⊢
    cases g : (ownWipe a u.now).2.accepts
    · simp [g, m] at e
    · exact ownWipe_ends a u g
  case rset => exact request_ends _ _ _ h made some fun u m e => by simp [Writing.accepted, ownRset]
  all_goals
    exfalso
    apply some
    unfold Writing.request Writing.accepted
    dsimp only
    split <;> exact made

theorem State.oweOvers_store (n : Nat) (s : State) : (s.oweOvers n).store = s.store := by
  unfold State.oweOvers
  split
  · rfl
  · exact State.wake_store _

/-- R170, R179: the writes of a dispatch end where the dispatch ends. -/
theorem execDispatch_ends {s t : State} (h : execDispatch s = .next t) (some : ((Writing.begin s).dispatch).made ≠ []) :
    ((Writing.begin s).dispatch).now.store = t.store := by
  unfold Writing.dispatch at some ⊢
  unfold execDispatch at h
  split at some
  · rename_i c
    rw [if_pos c]
    rw [Writing.begin_now] at c
    rw [if_pos c] at h
    simp only [Writing.begin_now] at some ⊢
    split at some
    · rename_i x rest e
      simp only [e] at h ⊢
      unfold LineSlot.dispatch at h
      split at some
      · exact absurd rfl some
      · rename_i n
        rw [if_neg n] at h ⊢
        split at some
        · exact absurd rfl some
        · rename_i p i k
          simp only [k] at h ⊢
          cases g : takeRequest i { s with link := { s.link with slots := rest } } with
          | fault e => simp [g, thenNext] at h
          | refused r => simp [g, thenNext] at h
          | next u =>
            simp only [g, thenNext, Host.Outcome.next.injEq] at h
            rw [← h, State.oweOvers_store]
            exact takeRequest_ends i g rfl some
    · exact absurd rfl some
  · exact absurd rfl some

/-- Work that is done only while the part runs ends where the event ends. -/
theorem whenLive_ends {f : State → State} {v : Writing} {s t : State} (h : whenLive f s = .next t)
    (some : (if s.live then v else Writing.begin s).made ≠ []) (ends : v.now.store = (f s).store) :
    (if s.live then v else Writing.begin s).now.store = t.store := by
  cases c : s.live
  · simp [c] at some
  · simp only [whenLive, c, if_true, Host.Outcome.next.injEq] at h
    simp only [if_true]
    rw [ends, h]

/-- Work that is done only while the part runs ends where the event of an input line ends. -/
theorem whenLiveLine_ends {l : InputLines → InputLines} {f : State → State} {v : Writing} {s t : State}
    (h : whenLiveLine l f s = .next t) (some : (if s.live then v else Writing.begin s).made ≠ [])
    (ends : v.now.store = (f { s with lines := l s.lines }).store) :
    (if s.live then v else Writing.begin s).now.store = t.store := by
  cases c : s.live
  · simp [c] at some
  · simp only [whenLiveLine, c, if_true, Host.Outcome.next.injEq] at h
    simp only [if_true]
    rw [ends, h]

theorem Writing.powerOn_now (w : Writing) : w.powerOn.now = w.now.powerOn := by
  unfold Writing.powerOn State.powerOn
  split
  · exact Writing.warm_now w
  · rfl

/-- R179: the writes of a command end where the command ends. -/
theorem exec_ends (i : Instr) {s t : State} (h : exec i s = .next t) (some : s.writesOf i ≠ []) :
    ((Writing.begin s).command i).now.store = t.store := by
  cases i
  case countEvent a b =>
    exact whenLiveLine_ends (l := fun l => { l with enca := a, encb := b })
      (f := State.encoderChange s.lines.enca s.lines.encb a b) h some (by rw [Writing.encoderChange_now]; rfl)
  case indexEdge => exact whenLive_ends h some (by simp)
  case stepTimerExpiry => exact whenLive_ends h some (by simp)
  case stallLimit => exact whenLive_ends h some (by rw [apply_ite Writing.now, Writing.stepTimer_now]; rfl)
  case settleExpiry => exact whenLive_ends h some (by simp)
  case readingComplete r =>
    change execReadingComplete r s = _ at h
    unfold execReadingComplete at h
    unfold State.writesOf Writing.command at some
    unfold Writing.command
    dsimp only at some ⊢
    split at h
    · rename_i c
      rw [if_pos c] at some ⊢
      exact whenLive_ends h some (by simp)
    · cases h
  case warmupExpiry => exact whenLive_ends h some (by rw [apply_ite Writing.now, Writing.warmupDone_now]; rfl)
  case openTimeout => exact whenLive_ends h some (by simp)
  case contactClosed =>
    exact whenLiveLine_ends (l := fun l => { l with scontOpen := false }) (f := State.contactCloses) h some
      (by rw [Writing.contactCloses_now]; rfl)
  case closeTimeout => exact whenLive_ends h some (by simp)
  case presentRowStep => exact whenLive_ends h some (by simp)
  case labelComplete => exact whenLive_ends h some (by rw [apply_ite Writing.now, Writing.presentRow_now]; rfl)
  case waitingListWork => exact whenLive_ends h some (by simp)
  case dispatch => exact execDispatch_ends h some
  case powerOn =>
    change (if s.supply == .running then Writing.begin s else (Writing.begin s).powerOn).made ≠ [] at some
    change (if s.supply == .running then Writing.begin s else (Writing.begin s).powerOn).now.store = _
    change Host.Outcome.next (if s.supply == .running then s else s.powerOn) = _ at h
    rw [Host.Outcome.next.injEq] at h
    rw [← h]
    cases c : s.supply == .running <;> simp only [c] at some ⊢
    · exact congrArg State.store (Writing.powerOn_now _)
    · exact absurd rfl some
  case wipeColdStart =>
    change (if s.live && s.wipeDue then (Writing.begin s).cold .wipe else Writing.begin s).made ≠ [] at some
    change (if s.live && s.wipeDue then (Writing.begin s).cold .wipe else Writing.begin s).now.store = _
    change Host.Outcome.next (if s.live && s.wipeDue then State.cold .wipe s.lines s.pending else s) = _ at h
    rw [Host.Outcome.next.injEq] at h
    rw [← h]
    cases c : s.live && s.wipeDue <;> simp only [c] at some ⊢
    · exact absurd rfl some
    · rfl
  case resetLine =>
    refine whenLive_ends (f := fun s => { s.resetAll.linkReset with resetLow := true }) h some ?_
    simp [State.linkReset]
  all_goals first | exact takeRequest_ends _ h rfl some | exact absurd rfl some

/-! ## The last write, and the frame records on the way -/

/-- R179: work on from a store: its last write is the store as the work leaves it, and no write gains more than one frame record. -/
structure Writing.From (a : Store) (w : Writing) : Prop where
  last : w.made.getLast?.getD a = w.now.store
  gains : Gains (a :: w.made)

theorem Writing.Leads.from {a : Store} {w v : Writing} (h : w.Leads v) (f : w.From a) : v.From a :=
  ⟨h.kept.last a f.last, h.kept.gains a f.last f.gains⟩

/-- The work of one change that is a write of several stores, none of which gains a frame record. -/
theorem Writing.From.writes {a : Store} {parts : List (State → State)} {f : State → State} {w : Writing} (h : w.From a)
    (same : ∀ p ∈ f :: parts, (p w.now).store.frames.length ≤ w.now.store.frames.length + 1)
    (level : ∀ p ∈ f :: parts, ∀ q ∈ f :: parts, (p w.now).store.frames.length = (q w.now).store.frames.length) :
    (w.writes parts f).From a := by
  refine ⟨by simp, ?_⟩
  rw [Writing.writes_made]
  cases parts with
  | nil => simpa using h.gains.snoc (b := (f w.now).store) (by rw [h.last]; exact same f (List.mem_cons_self ..))
  | cons p l =>
    have first := h.gains.snoc (b := (p w.now).store)
      (by rw [h.last]; exact same p (List.mem_cons_of_mem _ (List.mem_cons_self ..)))
    have rest := Gains.append (k := (l.map fun q => (q w.now).store) ++ [(f w.now).store]) first fun b hb => by
      simp only [List.getLast?_append, List.getLast?_singleton, Option.some_or, Option.getD_some]
      rcases List.mem_append.mp hb with hb | hb
      · obtain ⟨q, hq, rfl⟩ := List.mem_map.mp hb
        exact level q (by simp [hq]) p (by simp)
      · rw [List.mem_singleton.mp hb]
        exact level f (by simp) p (by simp)
    simpa using rest.2

theorem Writing.cold_from {a : Store} (kind : StartKind) {w : Writing} (h : w.From a) : (w.cold kind).From a := by
  refine ⟨by simp [Writing.cold], ?_⟩
  unfold Writing.cold
  dsimp only
  rw [Writing.writes_made]
  have one := h.gains.snoc (b := { w.now.store with valid := false }) (by rw [h.last]; exact Nat.le_succ _)
  have two := one.snoc (b := { (State.cold kind w.now.lines w.now.pending).store with valid := false }) (Nat.zero_le _)
  simpa using two.snoc (b := (State.cold kind w.now.lines w.now.pending).store) (Nat.zero_le _)

theorem State.warmBlocks_frames (s : State) : s.warmBlocks.store.frames.length = s.store.frames.length := by
  unfold State.warmBlocks
  dsimp only
  rw [State.readFilmEnd_frames, (State.clearQueued_film _).frames]

theorem Writing.request_from {a : Store} (i : Instr) {w : Writing} (c : w.From a) : (w.request i).From a := by
  unfold Writing.request
  split
  · have r : (w.move State.reserveTx).From a := (Leads.other .refl (State.reserveTx_store _) (State.reserveTx_transport _)
      (State.reserveTx_printer _)).from c
    by_cases l : ∃ f n, i = .load f n
    · obtain ⟨f, n, rfl⟩ := l
      unfold Writing.accepted
      dsimp only
      split
      · refine (Writing.load_leads f n _).from (r.writes ?_ ?_)
        · simp [State.loadRoll]
        · simp [State.loadRoll]
      · exact r
    · exact (Writing.accepted_leads i _ fun f n e => l ⟨f, n, e⟩).from r
  · exact c

theorem Writing.command_from (i : Instr) (s : State) : ((Writing.begin s).command i).From s.store := by
  have start : (Writing.begin s).From s.store := ⟨rfl, Gains.single _⟩
  by_cases h : Instr.beginsAfresh i = false
  · exact (Writing.command_leads i _ h).from start
  · cases i
    case load f n => exact Writing.request_from _ start
    case dispatch =>
      change (Writing.begin s).dispatch.From s.store
      unfold Writing.dispatch
      split
      · split
        · split
          · exact start
          · split
            · exact start
            · exact Writing.request_from _ ⟨rfl, Gains.single _⟩
        · exact start
      · exact start
    case powerOn =>
      change (if s.supply == .running then Writing.begin s else (Writing.begin s).powerOn).From s.store
      split
      · exact start
      · unfold Writing.powerOn
        split
        · refine (Writing.warm_leads _).from (start.writes ?_ ?_) <;>
            simp [State.warmBlocks_frames, (State.clearQueued_film _).frames]
        · exact Writing.cold_from _ start
    case wipeColdStart =>
      change (if s.live && s.wipeDue then (Writing.begin s).cold .wipe else Writing.begin s).From s.store
      split
      · exact Writing.cold_from _ start
      · exact start
    all_goals exact absurd rfl h

/-- R179: the last write of a command leaves the store that the command leaves. -/
theorem State.writesOf_last (i : Instr) {s t : State} {st : Store} (h : exec i s = .next t)
    (k : (s.writesOf i).getLast? = .some st) : t.store = st := by
  have some : s.writesOf i ≠ [] := by
    intro e
    rw [e] at k
    cases k
  have c := (Writing.command_from i s).last
  change (s.writesOf i).getLast?.getD s.store = _ at c
  rw [k, exec_ends i h some] at c
  exact c.symm

/-- R179: each write of a command gains at most one frame record. -/
theorem State.writesOf_gains (i : Instr) (s : State) : Gains (s.store :: s.writesOf i) := (Writing.command_from i s).gains

end Sys2Proof.Machine
end

