-- ==== Sys2Proof/Tests/Slice0.lean ====
section
/-! SUPPORT. The tests: the ill-formed commands that `Instr.wellFormed` refuses, the manual's worked cases, requests read from their
lines, one small step of the commands, and for each statement with hypotheses a state and operands that meet them. -/

namespace Sys2Proof.Tests

open Sys2Proof Sys2Proof.Machine

/-! ## Helpers -/

/-- The state after a command. -/
def after (c : Instr) (s : State) : State :=
  match exec c s with
  | .next t => t
  | .fault _ => s
  | .refused _ => s

/-- The reply queue as lines. -/
def said (s : State) : List Text := s.link.replies.map Reply.text

/-- The command that a line is. -/
def readLine (t : String) : Option Instr :=
  match checkLine t.toList with
  | .ok p => some p.2
  | .error _ => none

/-- The refusal of a line. -/
def refusalOf (t : String) : Option Answer :=
  match checkLine t.toList with
  | .ok _ => none
  | .error a => some a

/-- The state after the request that a line is. -/
def ask (t : String) (s : State) : State :=
  match readLine t with
  | some c => after c s
  | none => s

/-- The last line of the reply queue. -/
def answered (t : String) (s : State) : Option Text := (said (ask t s)).getLast?

def film3 : FilmRecord :=
  { name := "Panchrome 64".toList, code := "D64".toList, k := 252,
    recip := [{ threshold := 120, extra := 2 }, { threshold := 144, extra := 6 }, { threshold := 168, extra := 12 }] }

/-- Roll 412 with film 3, LOADED, of 30 frames. -/
def roll412 : Roll :=
  { number := 412, film := 3, state := .loaded, base := 1536, length := some 30, frameCount := 1, tail := none,
    positionValid := true, fault := none }

def noFlags : Flags :=
  { meterHigh := false, meterLow := false, manual := false, recip := false, clampLow := false, clampHigh := false }

/-- Step `n` of item 77.1, set 1. -/
def refOf (n : Nat) (offset : Int) : ItemRef := { order := 77, item := 1, set := 1, step := n, offset := offset }

/-- The gate frame 412/001. -/
def gate : Frame :=
  { roll := 412, number := 1, state := .positioned, gateCount := some 1536, cause := none, ref := none, computed := none,
    measured := none, selection := none, label := .none, charged := false }

/-- The context of step 1 of item 77.1 (worked case 1). -/
def step1 : Context :=
  { ref := refOf 1 0, logT := 80, planned := 812, flags := noFlags, light := some 24300, source := .copy, film := 3 }

def item1 : Item :=
  { number := 1, catalogue := "PH 411.2 K3".toList, title := "The Court of the Lions from the east gallery".toList,
    credit := "Survey plate 14, 1889".toList, mode := .copy 0, plan := 1, copies := 1, state := .active,
    cancelPending := false, captured := some [0, -4, 4],
    rates := some { frame := 450, reject := 150, spoil := 0, label := 120, rush := 250 }, estimate := 870, stored := none,
    currentSet := some 1, steps := some [.pending, .pending, .pending], setsDone := 0, kept := 0, rejected := 0, spoiled := 0,
    labels := 0 }

def order77 : Order :=
  { number := 77, account := 12, cls := .normal, state := .active, minimum := some 0, running := 0, items := [item1] }

def account12 : Account :=
  { number := 12, name := "Architecture".toList, cls := 2, allowance := some 12000, charged := 8600, committed := 870,
    period := 214, state := .opened, saturated := false }

/-- A stand at work: roll 412 open with 412/001 in the gate, item 77.1 ACTIVE. -/
def stand : State :=
  { State.reset with
    store :=
      { State.reset.store with
        films := State.reset.store.films.set 2 (some film3)
        rolls := [roll412]
        frames := [gate]
        plans := State.reset.store.plans.set 0 (some [0, -4, 4])
        rates := State.reset.store.rates.set 1
          { frame := 450, reject := 150, spoil := 0, label := 120, minimum := 2000, rush := 250 }
        accounts := [account12]
        book := { posted := [order77], building := [] } }
    transport := { State.reset.transport with count := 1536, index := { state := .running, reference := 1536 } } }

/-- The stand with the cycle in a state. -/
def standIn (c : CycleState) : State := { stand with cycle := { stand.cycle with state := c } }

/-- The stand with a store. -/
def withStore (f : Store → Store) (s : State) : State := { s with store := f s.store }

/-- The stand with an advance in flight. -/
def advancing (q : Requester) (p : AdvancePhase) : State :=
  { stand with
    transport :=
      { stand.transport with
        advance := some { requester := q, phase := p, dest := 1728, noted := false, stallWatch := 0, counted := false } } }

/-- The stand with an exposure of step 1 in a phase. -/
def exposing (p : ShutterPhase) (contactOpen : Bool) (ticks : Nat) : State :=
  { standIn .exposing with
    shutter :=
      { phase := p, held := some step1, ticks := ticks, measured := none, contactOpen := contactOpen, coil := true,
        timer := none } }

/-- 412/005 of the manual's label, EXPOSED and KEPT. -/
def frame5 : Frame :=
  { gate with
    number := 5, state := .exposed, ref := some (refOf 3 4), selection := some .kept,
    computed := some { logT := 84, planned := 1024, light := some 24300, flags := noFlags }, measured := some 1095 }

/-- The stand with five frames, the last of them 412/005, and a label channel. -/
def labelling (f : Frame) (p : Printer → Printer) : State :=
  { withStore (fun r => { r with rolls := [{ roll412 with frameCount := 5 }], frames := [f] }) stand with
    printer := p stand.printer }

/-- A label of 412/005 in hand. -/
def inHand (c : ChanState) (k : LabelKind) (rows : Nat) (p : Printer) : Printer :=
  { p with
    state := c, hand := some { roll := 412, frame := 5, kind := k }, rows := rows,
    queue := if k = .queue then [(412, 5)] else [] }

/-- The stand with line slots and a line that is being lost. -/
def hearing (l : List LineSlot) (lost : Option LostLine) : State := { stand with link := { stand.link with slots := l, lost := lost } }

def slotOf (t : SlotState) (chars : Text) : LineSlot :=
  { state := t, chars := chars, count := chars.length, badHead := false, tooLong := false, malformed := false, overrun := 254 }

/-- Order 70 with a DONE item, order 77 with its ACTIVE item's cancellation waiting, and a journal of so many entries. -/
def cancelledAtStart (n : Nat) : State :=
  withStore (fun r => { r with
    frames := []
    journal := List.replicate n { seq := 1, account := 12, order := 70, detail := none, amount := 0 }
    book :=
      { posted :=
          [{ order77 with number := 70, state := .done, items := [{ item1 with state := .done, kept := 1 }] },
           { order77 with items := [{ item1 with cancelPending := true, spoiled := 1 }] }]
        building := [] } }) stand

/-! ## Commands that are not well formed -/

theorem test_illformed_film_name : (Instr.filmWrite 1 ['\n'] [] 0 []).wellFormed = false := by decide
theorem test_illformed_film_code : (Instr.filmWrite 1 [] [Char.ofNat 127] 0 []).wellFormed = false := by decide
theorem test_illformed_item_catalogue :
    (Instr.itemAdd 1 [Char.ofNat 200] [] [] none 0 0 1 none).wellFormed = false := by decide
theorem test_illformed_item_title : (Instr.itemAdd 1 [] ['\t'] [] none 0 0 1 none).wellFormed = false := by decide
theorem test_illformed_item_credit :
    (Instr.itemAdd 1 [] [] [Char.ofNat 31] none 0 0 1 none).wellFormed = false := by decide
theorem test_illformed_account_name : (Instr.acctWrite 1 [Char.ofNat 1] 1 none none).wellFormed = false := by decide
theorem test_illformed_glyph : (Instr.glyfLoad 32 [['0', Char.ofNat 160]]).wellFormed = false := by decide
theorem test_illformed_dots : (Instr.dots [Char.ofNat 10]).wellFormed = false := by decide
theorem test_illformed_reading : (Instr.readingComplete 65521).wellFormed = false := by decide
theorem test_wellformed_edges : (Instr.filmWrite 1 [' ', '~'] [] 0 []).wellFormed = true ∧
    (Instr.readingComplete 65520).wellFormed = true := by decide

/-- The table gives its rows no bits, so no word spells a command. -/
theorem test_no_word_decodes : decodeTableWord 32 0 = none ∧ decodeTableWord 8 255 = none := by decide

/-! ## The manual's worked figures -/

/-- R51: a reading of 50,000 with offset 200 and gain 20,000 is corrected to 60,791; with gain 24,000 it is clamped. -/
theorem test_corrected_reading : correctReading 50000 200 20000 = 60791 ∧ correctReading 50000 200 24000 = 65535 := by decide

/-- 4.3: the brightness of 24,300 is 174; of 300 it is 98; of 9 it is 38; R71: of 1 and 65,535 it is 0 and 191. -/
theorem test_brightness : brightness 24300 = 174 ∧ brightness 300 = 98 ∧ brightness 9 = 38 ∧ brightness 1 = 0 ∧
    brightness 65535 = 191 := by decide

/-- R74: the planned ticks of T = 0, 1, 76, 80, 84 and 191. -/
theorem test_planned_ticks : plannedTicks 0 = 8 ∧ plannedTicks 1 = 8 ∧ plannedTicks 76 = 646 ∧ plannedTicks 80 = 812 ∧
    plannedTicks 84 = 1024 ∧ plannedTicks 191 = 494592 := by decide

/-- R124: the marks of +4, -6, +16, +5, +12, -36 and -35. -/
theorem test_bracket_marks : bracketMark 4 = "+1/3".toList ∧ bracketMark (-6) = "-1/2".toList ∧
    bracketMark 16 = "+1 1/3".toList ∧ bracketMark 5 = "+5/12".toList ∧ bracketMark 12 = "+1".toList ∧
    bracketMark (-36) = "-3".toList ∧ bracketMark (-35) = "-2 11/12".toList := by decide

/-- R123: line 4 of three frames of the manual's table. -/
theorem test_line_four : lineFour 412 5 "D64".toList 4 = "412/005 D64 +1/3".toList ∧
    lineFour 9 40 [] (-6) = "9/040 -1/2".toList ∧
    lineFour 65535 1000 "TX25".toList (-35) = "65535/1000 TX25 -2 11/12".toList := by decide

/-- R125, 6.3: the title of item 77.1 is cut at the 31st character. -/
theorem test_title_is_cut : cutLine item1.title = "The Court of the Lions from the~".toList := by decide

/-- R121: the copy mark of set 2 of three copies. -/
theorem test_copy_mark : lineOne { item1 with copies := 3 } 2 = "PH 411.2 K3 c2/3".toList := by decide

/-- R155: the estimate of two copies of a three-step plan in class 2, RUSH, is 2,175, and of one of one step 713. -/
theorem test_estimate :
    estimateOf { frame := 450, reject := 150, spoil := 0, label := 120, minimum := 2000, rush := 250 } .rush 2 3 = 2175 ∧
    estimateOf { frame := 450, reject := 150, spoil := 0, label := 120, minimum := 2000, rush := 250 } .rush 1 1 = 713 := by
  decide

/-- R158, 8.6: kept 3, rejected 3, spoiled 1 and labels 3 at a discount of 100 permille, RUSH, come to 2,430. -/
theorem test_settlement_amount :
    priceItem .rush { item1 with kept := 3, rejected := 3, spoiled := 1, labels := 3 } 100 = 2430 := by decide

/-- R141: the strobe times of the four densities, in hundredths of a millisecond. -/
theorem test_strobe_times : strobeTime 1 = 160 ∧ strobeTime 2 = 200 ∧ strobeTime 4 = 240 ∧ strobeTime 8 = 290 := by decide

/-- R132: the worked window of 20 by 2 dots: eight bytes, at row 0 and byte 2 after one wrap. -/
theorem test_dots_example :
    said (after (.dots "FF81FFFF81FFAA55".toList) (after (.emblWindow 10 29 20 21) State.reset)) =
      ["=EMBL 10,29,20,21,3,6".toList, "=DOTS 8,0,2,1".toList] := by decide

/-- R132: row 20 holds AA, 55 and the four high bits of FF from column 10, and nothing beyond column 29. -/
theorem test_dots_row :
    ((after (.dots "FF81FFFF81FFAA55".toList) (after (.emblWindow 10 29 20 21) State.reset)).store.emblem)[20] =
      (0xAA55F#64 <<< 34) := by decide

/-- R128: the worked GLYF is accepted with 43 and 3, and glyph 44 reads back as the manual says. -/
theorem test_glyf_example :
    said (after (.glyfQuery 44) (ask "GLYF 43,00001818187E7E181818,000000007E7E,00060C183060C0" State.reset)) =
      ["=GLYF 43,3".toList, "=GLYF 44,000000007E7E000000000000".toList] := by decide

/-! ## Requests read from their lines (R171, R172) -/

theorem test_reads_load : readLine "LOAD 3,30" = some (.load 3 (some 30)) ∧ readLine "LOAD 3" = some (.load 3 none) := by decide
theorem test_reads_pick : readLine "PICK 412/003,412/0004" = some (.pick [(412, 3), (412, 4)]) := by decide
theorem test_reads_mark : readLine "MARK 2,-7680" = some (.markRegister 2 (-7680)) ∧ readLine "MARK" = some .markList := by decide
theorem test_reads_zone : readLine "ZONE NOTE,100,+200" = some (.zoneWrite [{ kind := some .note, low := 100, high := 200 }]) ∧
    readLine "ZONE CLEAR" = some .zoneClear := by decide
theorem test_reads_conf : readLine "CONF ENCODER,COUNT" = some (.confWrite (.encoder (some .count))) ∧
    readLine "CONF Baud,9600" = none ∧ readLine "CONF" = some .confList := by decide
theorem test_reads_film : readLine "FILM 3,\"A \"\"B\"\"\",,252,120,2" =
    some (.filmWrite 3 "A \"B\"".toList [] 252 [(120, 2)]) := by decide
theorem test_reads_run_and_go : readLine "RUN" = some .run ∧ readLine "GO" = some .go := by decide
theorem test_reads_account : readLine "ACCT 40,\"Maps\",2,,CLOSED" =
    some (.acctWrite 40 "Maps".toList 2 (some none) (some (some .closed))) ∧
    readLine "ACCT 40,REMOVE" = some (.acctRemove 40) := by decide
theorem test_reads_item : readLine "ITEM 77,\"K\",\"T\",,COPY,0,1,2" =
    some (.itemAdd 77 ['K'] ['T'] [] (some .copy) 0 1 2 none) := by decide

/-- R131, R153, R182: a single field that is not CLEAR or ALL, whatever its form, and a sixth field of ACCT. -/
theorem test_reads_wrong_words : refusalOf "EMBL clear" = some (refuseAt .range 1) ∧ refusalOf "EMBL \"CLEAR\"" = some (refuseAt .range 1) ∧
    readLine "WIPE all" = some (.wipe false) ∧ readLine "WIPE ALL" = some (.wipe true) ∧
    refusalOf "ACCT X,Y,Z,1,OPEN,6" = some (refuse .form) ∧ refusalOf "PICK 1,2,3,4,5,6,7,8" = some (refuse .form) := by decide

/-- R171: each of the Link's own refusals. -/
theorem test_link_refusals :
    refusalOf "XYZW" = some (refuse .verb) ∧ refusalOf "load 3" = some (refuse .form) ∧
    refusalOf "STATX" = some (refuse .form) ∧ refusalOf "DROP 1 2" = some (refuseAt .form 1) ∧
    refusalOf "DROP 1,\"a" = some (refuseAt .form 2) ∧ refusalOf "STAT 1" = some (refuse .form) := by decide

/-! ## The roll and the frame table -/

theorem test_load_reply : answered "LOAD 3,1001"
    (withStore (fun r => { r with films := r.films.set 2 (some film3) }) State.reset) =
      some "=LOAD 1,3,1536,CLAMPED,2".toList := by decide
theorem test_load_busy : answered "LOAD 3" stand = some "?LOAD BUSY".toList := by decide
theorem test_unload_voids_the_gate : ((after .unld stand).store.frames.map fun f => (f.state, f.cause)) = [(.void, some .unload)] ∧
    ((after .unld stand).store.rolls.map Roll.state) = [.settled] := by decide
theorem test_drop : answered "DROP 412" stand = some "?DROP STATE,1".toList ∧
    answered "DROP 412" (after .unld stand) = some "=DROP 412,1".toList := by decide
theorem test_frame_query : answered "FRAM 412/1" stand =
    some "=FRAM 412/001,POSITIONED,,1536,,,,,,,,,,,,NONE,N".toList := by decide
theorem test_roll_list : answered "ROLL" stand = some "=ROLL 412,LOADED".toList := by decide
theorem test_pick_keeps : answered "PICK 412/005"
    (labelling { frame5 with selection := some .undecided }
      (fun p => p)) = some "?PICK OPEN,1".toList := by decide
theorem test_reject_wants_undecided : answered "RJCT 412/1" stand = some "?RJCT STATE,1".toList := by decide

/-! ## Film transport -/

theorem test_quad_counts_up : (after (.countEvent true false) stand).transport.count = 1537 ∧
    (after (.countEvent false true) stand).transport.count = 1535 := by decide
theorem test_mark_fires : (after (.countEvent true false)
    { stand with transport := { stand.transport with marks := [{ number := 2, roll := 412, value := 1537, armed := true }] } }
    ).outbox.tx = .notice (.rollMark 412 2) := by decide
theorem test_wind_voids : (after .wind stand).store.frames.map Frame.cause = [some .wind] ∧
    ((after .wind stand).transport.advance.map Advance.dest) = some 1728 := by decide
theorem test_step_drives_the_staged_pattern :
    (after .stepTimerExpiry (advancing .cycle (.stepping none))).transport.phase = 1 ∧
    (after .stepTimerExpiry (advancing .cycle (.stepping none))).transport.staged = 2 := by decide
/-- R33: the coils of the eight phase indices. -/
theorem test_coils : (List.range 8).map coilsOf =
    [⟨true, false, false, false⟩, ⟨true, true, false, false⟩, ⟨false, true, false, false⟩, ⟨false, true, true, false⟩,
     ⟨false, false, true, false⟩, ⟨false, false, true, true⟩, ⟨false, false, false, true⟩, ⟨true, false, false, true⟩] := by decide
theorem test_settle_positions : ((after .settleExpiry
      { withStore (fun r => { r with frames := [{ gate with state := .void }] }) (advancing .wind (.settling 40)) with
        transport := { (advancing .wind (.settling 40)).transport with count := 1740 } }
    ).store.frames.getLast?).map (fun f => (f.number, f.state, f.gateCount)) = some (2, .positioned, some 1740) := by decide
theorem test_slip_fails_the_advance : (after .indexEdge
    { advancing .wind (.stepping none) with
      transport := { (advancing .wind (.stepping none)).transport with count := 1536 + 384 + 7 } }).transport.advance = none := by
  decide
theorem test_conf_encoder : answered "CONF ENCODER,COUNT" State.reset = some "=CONF COUNT,2,3,12".toList := by decide
theorem test_conf_baud : answered "CONF BAUD,4800" State.reset = some "?CONF RANGE,2".toList := by decide
/-- R166: the rate in force is named while another waits for its reply to be sent. -/
theorem test_conf_baud_in_force : answered "CONF BAUD,19200" (ask "CONF BAUD,38400" State.reset) = some "=CONF BAUD,38400".toList ∧
    (ask "CONF BAUD,19200" (ask "CONF BAUD,38400" State.reset)).store.conf.baud = 38400 := by decide
theorem test_ramp_staged : answered "RAMP 3,0,5000,4000" State.reset = some "=RAMP 2".toList := by decide

/-! ## Light metering -/

theorem test_gain : answered "GAIN 2,40000" State.reset = some "=GAIN 2,32767,CLAMPED,2".toList := by decide
theorem test_read_empty : answered "READ 1" State.reset = some "=READ 1,,,,16384".toList := by decide
theorem test_reading_stored : (after (.readingComplete 50000) stand).meter.latest[0] = some 50000 ∧
    (after (.readingComplete 50000) stand).meter.turn = 1 := by decide
/-- 3.5: reference 24,301, average 23,456 and offset 312 give the gain 17,203, and a light of 24,300 with it; reference 60,000
with 1,500 and 40 gives 673,315, out of range. -/
theorem test_calibration_candidate : candidateGain 24301 23456 312 = 17203 ∧ correctReading 23456 312 17203 = 24300 ∧
    candidateGain 60000 1500 40 = 673315 ∧ gainOk 673315 = false := by decide

/-! ## Exposure and bracketing -/

/-- Worked case 1: the three steps of 0, -4 and +4 at T0 = 80. -/
theorem test_calc : answered "CALC 3,COPY,24300,0,1"
    (withStore (fun r => { r with copyTrim := 2 }) stand) =
      some "=CALC 80,0,80,812,,-4,76,646,,4,84,1024,".toList := by decide
/-- R67: FILM id gives the record alone. -/
theorem test_film_query : answered "FILM 3" stand = some "=FILM \"Panchrome 64\",\"D64\",252,120,2,144,6,168,12".toList := by decide
theorem test_contact_opens : (after .contactOpen (exposing .opening false 0)).shutter.phase = .opened ∧
    (after .contactOpen (exposing .opening false 0)).store.marker = some step1 := by decide
theorem test_normal_outcome : ((after .contactClosed (exposing (.closing (some .normal) false) true 884)).store.frames.map
    fun f => (f.state, f.measured, f.selection)) = [(.exposed, some 884, some .undecided)] := by decide
theorem test_lamp_outcome : ((after .contactClosed (exposing (.closing (some .lamp) false) true 564)).store.frames.map
    fun f => (f.state, f.cause, f.measured)) = [(.spoiled, some .lamp, some 564)] ∧
    (after .contactClosed (exposing (.closing (some .lamp) false) true 564)).cycle.state = .halted .lamp (some 412) := by decide
theorem test_open_timeout_returns : ((after .openTimeout (exposing .opening false 0)).contexts.map Context.ref) =
    [step1.ref] := by decide

/-! ## Orders and the stand cycle -/

theorem test_order_refused : answered "ORDR 77,12,NORMAL" stand = some "?ORDR DUP,1".toList ∧
    answered "ORDR 78,13,NORMAL" stand = some "?ORDR NONE,2".toList := by decide
theorem test_run_selects : answered "RUN" stand = some "=RUN PLACE".toList := by decide
theorem test_go_warms : (after .go (standIn .place)).cycle.state = .warmup ∧
    (after .go (standIn .place)).cycle.copyLamp = { on := true, warm := false } := by decide
theorem test_cancel_active : answered "CNCL 77" (standIn .place) = some "=CNCL 77,1".toList ∧
    (after (.cnclItem 77 1) (standIn .exposing)).outbox.notices = [] := by decide
/-- R102: both lamps go off when the ACTIVE item ends, also the one that LITE lit in STOPPED. -/
theorem test_item_end_darkens : (ask "CNCL 77" (ask "LITE STAGE,ON" stand)).cycle.stageLamp = { on := false, warm := false } ∧
    (ask "LITE STAGE,ON" stand).cycle.stageLamp.on = true := by decide
theorem test_abort_stops : (after .abrt (exposing .opened true 100)).cycle.state = .stopped ∧
    ((after .abrt (exposing .opened true 100)).store.frames.map Frame.cause) = [some .abort] := by decide
theorem test_resume_busy : answered "RSUM" stand = some "?RSUM BUSY".toList := by decide

/-! ## Labels -/

theorem test_label_text : answered "LTXT 412/5" (labelling frame5 (fun p => p)) =
    some
      ("=LTXT \"PH 411.2 K3\",\"The Court of the Lions from the~\",\"Survey plate 14, 1889\",\"412/005 D64 +1/3\",Y").toList := by
  decide
theorem test_print_queues : answered "PRNT 412" (labelling frame5 (fun p => p)) = some "=PRNT 412,1,END".toList ∧
    (after (.prnt 412) (labelling frame5 (fun p => p))).printer.state = .feeding := by decide
theorem test_feed_limit : (after .feedRowLimit (labelling frame5 (inHand .feeding .queue 119))).printer.state = .stalled .noGap := by
  decide
theorem test_label_completes :
    ((after .labelComplete (labelling { frame5 with label := .queued } (inHand .presenting .queue 23))).store.frames.map
      Frame.label) = [.printed] ∧
    (after .labelComplete (labelling { frame5 with label := .queued } (inHand .presenting .queue 23))).outbox.tx =
      .notice (.label 412 .empty) := by decide
theorem test_density : answered "DENS 3" State.reset = some "=DENS 4,UNCHANGED".toList := by decide
theorem test_stop_printing : answered "PSTP" (labelling { frame5 with label := .queued } (inHand (.stalled .paper) .queue 31)) =
    some "=PSTP 1,".toList := by decide

/-! ## Charges, the line link and the starts -/

theorem test_rate : answered "RATE 2,450,150,0,120,2000,1250" State.reset =
    some "=RATE 2,450,150,0,120,2000,1000,CLAMPED,7".toList := by decide
theorem test_zero_busy : answered "ZERO 12" stand = some "?ZERO BUSY".toList := by decide
theorem test_take_empty : answered "TAKE 8" State.reset = some "=TAKE 0".toList ∧
    answered "TAKE" State.reset = some "=TAKE 0,,1,0".toList := by decide
theorem test_stat : answered "STAT" State.reset = some "=STAT STOPPED,,,,,,0,N,N,CLOSED,IDLE,0,IDLE,0,1024,0,0,,19200".toList := by
  decide
/-- R167: a line of STAT and its CR, dispatched. -/
theorem test_line_is_dispatched :
    said (after .dispatch (after (.characterReceived 13 false)
      (((("STAT".toList.map fun c => BitVec.ofNat 8 c.toNat).foldl fun s c => after (.characterReceived c false) s)) State.reset))) =
      ["=STAT STOPPED,,,,,,0,N,N,CLOSED,IDLE,0,IDLE,0,1024,0,0,,19200".toList] := by decide
/-- R167, R171, R173: 160 characters of which the second is not stored, and one more; and the verb of a line whose second character
is not stored. -/
theorem test_unstored_characters_count :
    (({ slotOf .filling ['S'] with count := 160, badHead := true } : LineSlot).receive 0x41 false).tooLong = true ∧
    ((slotOf .filling ['S']).receive 0x07 false).verb = "----".toList ∧
    ((slotOf .filling "STAT".toList).receive 0x07 false).verb = "STAT".toList ∧
    ((slotOf .filling "STAT".toList).receive 0x07 false).marked = some (refuse .form) := by decide
/-- R173, R174: a line ends with CR and LF. -/
theorem test_line_ends : (ask "HOLD 1" State.reset).sending = some "?HOLD NONE\r\n".toList ∧
    (stand.raise (.halt .jam true)).sending = some "!HALT JAM,WIND\r\n".toList := by decide
theorem test_mems_after_warning :
    (said (after .mems (after .powerOn (after .vccFailure (after .powerFailWarning stand))))) =
      ["=MEMS V,C,WARM,1,412/001,VOID,0".toList] := by decide
theorem test_wipe : said (after (.wipe false) State.reset) = ["?WIPE RANGE,1".toList] ∧
    (after (.wipe true) State.reset).link.discard = true := by decide
/-- R162, R183: with room for one entry, the item whose cancellation waited settles at step 3, and the item of the order posted
before it waits, in one place. -/
theorem test_warm_start_rebuilds :
    (after .powerOn { cancelledAtStart 127 with supply := .warned }).waiting = [.item 70 1] ∧
    (after .powerOn { cancelledAtStart 128 with supply := .warned }).waiting = [.item 70 1, .item 77 1] := by
  decide +kernel
/-- R178: the reset line keeps the rate in force while a CONF BAUD's reply is being sent. -/
theorem test_reset_keeps_the_rate : (after .resetLine (ask "CONF BAUD,38400" State.reset)).link.rate = 19200 := by decide
theorem test_reset_keeps_the_count : (after .resetLine stand).transport.count = 1536 ∧
    (after .resetRelease (after .resetLine stand)).store.startRecord.kind = .resetLine := by decide

/-! ## Witnesses: for each statement with hypotheses, a state and operands that meet them -/

theorem test_witness_StepRunsFrontCommand : ({ stand with pending := [.stat, .rset] } : State).pending = .stat :: [.rset] := by
  decide

theorem test_witness_EmptyQueueTicksShutter :
    (exposing .opened true 810).pending = [] ∧ (exposing .opened true 810).live = true ∧
    (exposing .opened true 810).shutter.held = some step1 ∧ 810 + 1 < step1.planned ∧ 811 + 1 = step1.planned ∧
    step1.planned ≤ Config.maxTicks ∧ (exposing (.closing none true) true 1048575).shutter.phase = .closing none true ∧
    stand.shutter.phase = .idle ∧ (after .powerFailWarning stand).live = false := by decide

theorem test_witness_EveryCommandCompletes : (Instr.readingComplete 65520).wellFormed = true ∧ 65520 < 65521 := by decide

/-- A number with a sign and leading zeros, a field that is no number, a word and a field that is none, a frame reference and a
field that is none. -/
theorem test_witness_EveryCommandCompletes_kinds :
    number 3 (.plain ['0', '4', '1']) = .ok 41 ∧ number 3 (.plain ['-', '4', '1']) = .ok (-41) ∧
    number 3 (.plain ['+']) = .error (some 3) ∧ number 3 (.quoted ['1']) = .error (some 3) ∧
    word 2 (.plain ['A', '1']) = .ok ['A', '1'] ∧ word 2 (.plain ['a']) = .error (some 2) ∧
    frameRef 1 (.plain ['4', '/', '0', '5']) = .ok (4, 5) ∧ frameRef 1 (.plain ['4', '/']) = .error (some 1) ∧
    number 1 .empty = .error (some 1) ∧ Field.plain ['A', 'L'] ≠ .plain ['A', 'L', 'L'] :=
  ⟨rfl, rfl, rfl, rfl, rfl, rfl, rfl, rfl, rfl, by decide⟩

/-- The decimal digits of a number, with fuel. -/
def numeral : Nat → Nat → Text
  | 0, _ => ['0']
  | fuel + 1, n => (if n < 10 then [] else numeral fuel (n / 10)) ++ [Char.ofNat (48 + n % 10)]

/-- A number and a frame reference as fields. -/
def signed (v : Int) : Text := (if v < 0 then '-' else '+') :: numeral v.natAbs v.natAbs

theorem digitsAfter_append (m : Nat) (a : Text) (c : Char) :
    digitsAfter m (a ++ [c]) = (digitsAfter m a).bind fun n => digitsAfter n [c] := by
  induction a generalizing m with
  | nil => rfl
  | cons x a ih => rw [List.cons_append, digitsAfter, digitsAfter]; cases digit x <;> simp [ih]

theorem digitsAfter_digit : ∀ n d, d < 10 → digitsAfter n [Char.ofNat (48 + d)] = some (10 * n + d) := by
  intro n d h
  have : ∀ d, d < 10 → digit (Char.ofNat (48 + d)) = some d := by decide
  simp [digitsAfter, this d h]

theorem numeral_reads (fuel n : Nat) (h : n ≤ fuel) : digitsAfter 0 (numeral fuel n) = some n := by
  induction fuel generalizing n with
  | zero => obtain rfl : n = 0 := by omega
            rfl
  | succ fuel ih =>
    rw [numeral, digitsAfter_append]
    split
    · exact (digitsAfter_digit 0 _ (by omega)).trans (by congr 1; omega)
    · rw [ih _ (by omega)]; exact (digitsAfter_digit _ _ (by omega)).trans (by congr 1; omega)

theorem numberOf_signed (v : Int) : numberOf (signed v) = some v := by
  have e : numeral v.natAbs v.natAbs ≠ [] := by
    cases v.natAbs <;> simp [numeral]
  have d : digits (numeral v.natAbs v.natAbs) = some v.natAbs := by
    simp [digits, e, numeral_reads]
  unfold signed
  split
  · simp only [numberOf, d]
    exact congrArg some (by omega : -(v.natAbs : Int) = v)
  · simp only [numberOf, d]
    exact congrArg some (by omega : (v.natAbs : Int) = v)
theorem numeral_solidus (fuel n : Nat) : ∀ c ∈ numeral fuel n, (c != '/') = true := by
  have : ∀ d, d < 10 → (Char.ofNat (48 + d) != '/') = true := by decide
  induction fuel generalizing n with
  | zero => simp [numeral]
  | succ fuel ih =>
    intro c hc
    rw [numeral, List.mem_append, List.mem_singleton] at hc
    rcases hc with hc | rfl
    · split at hc
      · cases hc
      · exact ih _ c hc
    · exact this _ (by omega)

theorem span_solidus (a b acc : Text) (h : ∀ c ∈ a, (c != '/') = true) :
    List.span.loop (fun c => c != '/') (a ++ '/' :: b) acc = (acc.reverse ++ a, '/' :: b) := by
  induction a generalizing acc with
  | nil => simp [List.span.loop]
  | cons c a ih =>
    rw [List.cons_append, List.span.loop, h c (List.mem_cons_self ..)]
    simp [ih _ fun x hx => h x (List.mem_cons_of_mem _ hx)]

/-- Fields that read as every number and every frame reference. -/
theorem test_witness_EveryCommandCompletes_forms :
    (∀ k v, number k (.plain (signed v)) = .ok v) ∧
    ∀ k v w, frameRef k (.plain (signed v ++ '/' :: signed w)) = .ok (v, w) := by
  refine ⟨fun k v => by simp [number, numberOf_signed], fun k v w => ?_⟩
  have h : ∀ c ∈ signed v, (c != '/') = true := by
    intro c hc
    rcases List.mem_cons.1 hc with rfl | hc
    · split <;> rfl
    · exact numeral_solidus _ _ c hc
  have : splitSolidus (signed v ++ '/' :: signed w) = some (signed v, signed w) := by
    simp [splitSolidus, List.span, span_solidus _ _ [] h]
  simp [frameRef, this, numberOf_signed]

theorem test_witness_CommandsNotTakenChangeNothing :
    isRequest .stat = true ∧ (after .powerFailWarning stand).canTake = false ∧ standEvent (.countEvent true true) = true ∧
    (Instr.countEvent true true).wellFormed = true ∧ (after .resetLine stand).live = false := by decide

theorem test_witness_StepKeepsLineLink :
    LinkWf { stand with pending := [.stat] } ∧ step { stand with pending := [.stat] } = .next (after .stat stand) :=
  ⟨⟨by decide, by decide, by decide, by decide, by decide, by decide, by decide⟩, rfl⟩

theorem test_witness_StepKeepsCountRange :
    CountWf { stand with pending := [.countEvent true false] } ∧
    step { stand with pending := [.countEvent true false] } = .next (after (.countEvent true false) stand) :=
  ⟨⟨by decide, by decide, by decide, by decide⟩, rfl⟩

theorem test_witness_StepKeepsTables :
    TablesWf { stand with pending := [.unld] } ∧ ({ stand with pending := [.unld] } : State).composer.wf = true ∧
    step { stand with pending := [.unld] } = .next (after .unld stand) :=
  ⟨⟨by decide, by decide, by decide, by decide, by decide, by decide, by decide⟩, by decide, rfl⟩

theorem test_witness_StepKeepsOneOpenRoll :
    DirectoryWf { stand with pending := [.unld] } ∧ step { stand with pending := [.unld] } = .next (after .unld stand) :=
  ⟨⟨by decide, by decide, by decide⟩, rfl⟩

theorem test_witness_LoadOpensRoll : stand.canTake = true ∧ stand.store.rolls.length ≤ 3 ∧
    (withStore (fun r => { r with rolls := [{ roll412 with number := 65535 }, { roll412 with number := 1 }, roll412] })
      stand).store.rolls.length ≤ 3 := by decide

theorem test_witness_UnldClosesRoll : stand.canTake = true := by decide
theorem test_witness_DropRemovesRoll : (after .unld stand).canTake = true := by decide
theorem test_witness_FrameAndRollQueries : stand.canTake = true ∧ stand.openRoll = some roll412 ∧ stand.gateFrame = some gate ∧
    (withStore (fun r => { r with rolls := [] }) stand).openRoll = none := by decide

/-- The stand with 412/005 UNDECIDED and item 77.1 DONE. -/
def chosen : State :=
  withStore (fun r => { r with
    book := { posted := [{ order77 with items := [{ item1 with state := .done }] }], building := [] } })
    (labelling { frame5 with selection := some .undecided } fun p => p)

theorem test_witness_PickAndRjctDecideSet : chosen.canTake = true ∧ 1 ≤ [((412 : Int), (5 : Int))].length ∧
    [((412 : Int), (5 : Int))].length ≤ 7 ∧ [((412 : Int), (5 : Int))].Nodup ∧
    (∀ p ∈ [((412 : Int), (5 : Int))], 1 ≤ p.1 ∧ p.1 ≤ 65535 ∧ 1 ≤ p.2 ∧ p.2 ≤ 1000) ∧
    (∀ p ∈ [((412 : Int), (5 : Int))], ∃ f, chosen.frameAt p.1.toNat p.2.toNat = some f ∧ f.state = .exposed ∧
      f.selection = some .undecided ∧ ∃ q, f.ref = some q ∧ q.order = (refOf 3 4).order ∧ q.item = (refOf 3 4).item ∧
      q.set = (refOf 3 4).set) ∧ chosen.setIncomplete (refOf 3 4) = false := by
  refine ⟨by decide, by decide, by decide, by decide, by decide, ?_, by decide⟩
  intro p hp
  obtain rfl : p = (412, 5) := by simpa using hp
  exact ⟨{ frame5 with selection := some .undecided }, by decide, by decide, by decide, refOf 3 4, by decide, by decide, by decide,
    by decide⟩

/-- Each refusal of PICK, at the first offending frame. -/
theorem test_witness_PickAndRjctDecideSet_refusals : chosen.canTake = true ∧
    (ask "PICK" chosen).link.replies.length = 0 ∧ said (after (.pick []) chosen) = ["?PICK FORM".toList] ∧
    answered "PICK 412/5,412/1001" chosen = some "?PICK RANGE,2".toList ∧
    answered "PICK 412/5,412/1,412/005" chosen = some "?PICK DUP,3".toList ∧
    answered "PICK 412/5,412/2" chosen = some "?PICK NONE,2".toList ∧ answered "PICK 412/5" stand = some "?PICK NONE,1".toList ∧
    answered "PICK 412/1" stand = some "?PICK STATE,1".toList ∧
    answered "PICK 412/5" (labelling { frame5 with selection := some .undecided } fun p => p) = some "?PICK OPEN,1".toList := by
  decide

/-- The chosen stand with roll 412 CLOSED, its frame 412/005 KEPT, with a label of the given status. -/
def closed (l : LabelStatus) : State :=
  withStore (fun r => { r with rolls := [{ roll412 with state := .closed, frameCount := 5 }] })
    (labelling { frame5 with label := l } fun p => p)

/-- A CLOSED roll that is settleable becomes SETTLED with its notice, and one with an unprinted KEPT frame does not; and the set of
an ACTIVE item with a step that is not DONE is incomplete. -/
theorem test_witness_PickAndRjctDecideSet_rolls :
    (closed .printed).store.rolls = [] ++ { roll412 with state := .closed, frameCount := 5 } :: [] ∧
    (((closed .printed).checkRoll 412).store.rolls.map Roll.state, ((closed .printed).checkRoll 412).outbox.tx) =
      ([.settled], .notice (.rollState 412 .settled)) ∧
    (closed .queued).checkRoll 412 = closed .queued ∧ (closed .printed).checkRoll 411 = closed .printed ∧
    stand.setIncomplete (refOf 3 4) = true := by decide

theorem test_witness_MarkZoneAndRampRequests : stand.canTake = true := by decide
theorem test_witness_WindVoidsGateAndAdvances : stand.canTake = true := by decide

/-- The stand with no frame in the gate, its roll as given. -/
def bare (r : Roll) : State := withStore (fun t => { t with rolls := [r], frames := [{ gate with state := .void }] }) stand

theorem test_witness_AdvanceTakesItsAim_nothing :
    (advancing .wind (.settling 40)).transport.advance ≠ none ∧ (withStore (fun t => { t with rolls := [] }) stand).openRoll = none := by
  decide

theorem test_witness_AdvanceTakesItsAim :
    (bare roll412).transport.advance = none ∧ (bare roll412).openRoll = some roll412 ∧ stand.gateFrame ≠ none ∧
    (bare { roll412 with positionValid := false }).gateFrame = none ∧ (bare roll412).gateFrame = none ∧
    roll412.state ≠ .ended ∧ (bare { roll412 with length := some 1 }).openRoll = some { roll412 with length := some 1 } ∧
    1 < roll412.frameCount + 1 ∧ (bare { roll412 with tail := some 0 }).openRoll = some { roll412 with tail := some 0 } ∧
    roll412.frameCount + 1 ≤ 1000 ∧ roll412.frameCount + 1 ≤ 30 ∧ roll412.tail ≠ some 0 ∧
    (bare roll412).store.frames.length < 1024 ∧ (bare roll412).transport.count < 1536 + 1 * 192 ∧
    (bare roll412).store.classify 1728 1919 = none := by decide

/-- A window that meets the leader at its last count and a splice, one beside both, and an interval of the default ramp. -/
theorem test_witness_AdvanceTakesItsAim_zones :
    let z (kind : ZoneKind) (low high : Int) : Zone := { kind := kind, low := low, high := high }
    let s := withStore (fun r => { r with zone0 := some (z .leader 0 1535), zones := [z .splice 1600 1700] }) stand
    s.store.zone0.toList ++ s.store.zones = [z .leader 0 1535] ++ z .splice 1600 1700 :: [] ∧
      s.store.classify 1535 1600 = some .leader ∧ s.store.classify 1700 1800 = some .splice ∧ s.store.classify 1536 1599 = none ∧
      s.store.ramp[0]? = some 5000 ∧ s.store.interval 0 = 5000 := by decide

/-- A frame that a splice passes over, and a count at the destination, with a settle time of 40 ms and of 0. -/
theorem test_witness_AdvanceTakesItsAim_settle :
    (withStore (fun t => { t with zones := [{ kind := .splice, low := 1919, high := 2000 }] }) (bare roll412)).store.classify 1728 1919 =
      some .splice ∧
    (1728 : Int) ≤ ({ bare roll412 with transport := { stand.transport with count := 1728 } } : State).transport.count ∧
    0 < (bare roll412).store.conf.settle ∧
    (withStore (fun t => { t with conf := { t.conf with settle := 0 } }) (bare roll412)).store.conf.settle = 0 ∧
    (bare roll412).live = true := by decide

/-- A full frame table with no frame of the open roll in the gate. -/
theorem test_witness_AdvanceTakesItsAim_full :
    1024 ≤ (withStore (fun t => { t with frames := List.replicate 1024 { gate with state := .void } }) stand).store.frames.length ∧
    (withStore (fun t => { t with frames := List.replicate 1024 { gate with state := .void } }) stand).gateFrame = none :=
  ⟨Nat.le_of_eq List.length_replicate.symm, rfl⟩

theorem test_witness_ConfRequests : stand.canTake = true ∧ NumField.gateTol ≠ .baud := by decide

theorem test_witness_EncoderIndexAndFilmEndEvents :
    stand.live = true ∧ (advancing .wind (.stepping none)).transport.advance.map Advance.requester = some .wind ∧
    AdvancePhase.stepping none ≠ .stepping (some .abort) ∧
    (advancing .load (.stepping none)).transport.advance.map Advance.requester = some .load ∧
    (withStore (fun r => { r with rolls := [{ roll412 with state := .threading }] })
      (advancing .load (.stepping none))).openRoll = some { roll412 with state := .threading } ∧
    ({ standIn .winding with transport := (advancing .cycle (.settling 1)).transport } : State).cycle.state = .winding ∧
    ({ standIn .winding with transport := (advancing .cycle (.settling 1)).transport } : State).active = some (order77, item1) ∧
    item1.cancelPending = false ∧
    (advancing .cycle (.stepping (some .abort))).transport.advance.map Advance.phase = some (.stepping (some .abort)) ∧
    (advancing .cycle (.stepping none)).transport.advance.map Advance.requester = some .cycle ∧
    (advancing .cycle (.stepping none)).cycle.state ≠ .winding ∧ stand.transport.advance = none := by decide

/-- The stand with the count at a value. -/
def at_ (c : Int) (held : Bool) : State := { stand with transport := { stand.transport with count := c, held := held } }

theorem test_witness_CountEventMovesTargets :
    (at_ 8388607 true).transport.held = true ∧ (at_ 8388607 false).transport.count = 8388607 ∧
    (at_ (-8388608) false).transport.count = -8388608 ∧ -8388608 < (at_ (-8388607) false).transport.count ∧
    (at_ 8388606 false).transport.count < 8388607 ∧ (at_ 8388606 false).transport.held = false := by decide

theorem test_witness_StepTimerDrivesAndFeeds :
    (advancing .cycle (.stepping none)).live = true ∧
    (advancing .cycle (.stepping none)).transport.advance.map Advance.phase = some (.stepping none) ∧
    (advancing .cycle (.stepping (some .stop))).transport.advance.map Advance.phase = some (.stepping (some .stop)) ∧
    0 < stand.store.conf.settle ∧
    (advancing .cycle (.stepping (some .abort))).transport.advance.map Advance.phase = some (.stepping (some .abort)) ∧
    (advancing .wind (.stepping (some .limit))).transport.advance.map Advance.phase = some (.stepping (some .limit)) ∧
    (advancing .wind (.stepping (some .limit))).openRoll = some roll412 ∧ stand.transport.phase < 8 ∧
    (withStore (fun t => { t with conf := { t.conf with settle := 0 } }) (advancing .cycle (.stepping (some .stop)))).store.conf.settle =
      0 := by decide

theorem test_witness_SettleJudgesTheStop :
    (advancing .cycle (.settling 40)).live = true ∧
    (advancing .cycle (.settling 40)).transport.advance.map Advance.phase = some (.settling 40) ∧
    (advancing .cycle (.settling 40)).openRoll = some roll412 ∧
    ¬(1000 < roll412.frameCount + 1 ∨ (∃ len, roll412.length = some len ∧ len < roll412.frameCount + 1) ∨ roll412.tail = some 0) ∧
    (withStore (fun t => { t with rolls := [{ roll412 with tail := some 0 }] }) (advancing .cycle (.settling 40))).openRoll =
      some { roll412 with tail := some 0 } ∧
    (withStore (fun t => { t with rolls := [{ roll412 with state := .threading }] }) (advancing .load (.settling 40))).openRoll =
      some { roll412 with state := .threading } ∧
    (advancing .cycle (.settling 40)).store.frames.length < 1024 := by
  refine ⟨by decide, by decide, by decide, ?_, by decide, by decide, by decide⟩
  rintro (h | ⟨len, h, g⟩ | h)
  · exact absurd h (by decide)
  · obtain rfl : (30 : Nat) = len := by simpa [roll412] using h
    exact absurd g (by decide)
  · exact absurd h (by decide)

/-- A cycle in WINDING whose item's cancellation waited, and one that is not WINDING. -/
theorem test_witness_SettleJudgesTheStop_report :
    (standIn .winding).cycle.state = .winding ∧ stand.cycle.state ≠ .winding ∧ (cancelledAtStart 0).active.isSome = true := by decide

theorem test_witness_OffsetAndGainRequests : stand.canTake = true := by decide

/-- Two slots of channel 2: the lower one applies; and none of channel 1. -/
theorem test_witness_OffsetAndGainRequests_slots :
    let s := withStore (fun r => { r with slots := #v[none, some { channel := 2, offset := 7 }, none, some { channel := 2, offset := 9 }] })
      stand
    s.store.slots.toList = [none] ++ some { channel := 2, offset := 7 } :: [none, some { channel := 2, offset := 9 }] ∧
      s.offsetOf 2 = 7 ∧ s.offsetOf 1 = 0 := by decide

theorem test_witness_CalibrationAndWindowRequests : stand.canTake = true := by decide
theorem test_witness_ReadReportsCells : stand.canTake = true := by decide

theorem test_witness_ReadingServesCalibrationAndWindows : stand.live = true ∧ 65520 ≤ 65520 ∧ stand.meter.metering = none := by
  decide

/-- The last reading of a calibration of channel 0, with a metering that waits for it. -/
def calibrating : State :=
  { stand with
    meter :=
      { stand.meter with
        turn := 0
        calibration := some { channel := 0, reference := 24300, sum := 7 * 24300, taken := 7 }
        metering := some { channel := 0, samples := 16, begun := false, sum := 0, taken := 0 } } }

theorem test_witness_ReadingServesCalibrationAndWindows_waiting :
    calibrating.live = true ∧ calibrating.meter.metering.map Metering.begun = some false ∧
    calibrating.meter.calibration.map Calibration.taken = some 7 ∧
    ((after (.readingComplete 24300) calibrating).meter.metering.map Metering.begun) = some true := by decide

/-- A metering of channel 0 with so many of its 16 readings taken. -/
def metering (taken : Nat) (pause : Bool) : State :=
  { standIn .metering with
    cycle :=
      { stand.cycle with
        state := .metering, pause := pause, copyLamp := { on := true, warm := true } }
    meter :=
      { stand.meter with
        metering := some { channel := 0, samples := 16, begun := true, sum := taken * 24300, taken := taken } } }

/-- What a fill is made of when the last reading of the metering has come. -/
def filled (pause : Bool) : State :=
  ({ metering 15 pause with
    meter :=
      { (metering 15 pause).meter with
        latest := (metering 15 pause).meter.latest.set 0 (some 24300), turn := 1, metering := none } } : State).fill
    (.metering 24300 24300)

theorem test_witness_MeteringFillsTheQueue :
    (metering 14 false).live = true ∧ (metering 14 false).meter.calibration = none ∧ (metering 14 false).meter.live = false ∧
    (metering 14 false).meter.metering = some { channel := 0, samples := 16, begun := true, sum := 14 * 24300, taken := 14 } ∧
    (metering 14 false).meter.turn = 0 ∧ 14 + 1 < 16 ∧ 16 ≤ 15 + 1 ∧ (filled true).meter.live = false ∧
    (filled true).cycle.pause = true ∧ (filled false).cycle.pause = false ∧ (filled false).forward.meter.live = false := by
  decide

/-- The stand with no order. -/
def holdingNothing : State := withStore (fun r => { r with book := { posted := [], building := [] } }) stand

/-- The stand with its item in a mode, of a stored light. -/
def inMode (m : ItemMode) : State :=
  withStore (fun r => { r with
    book := { posted := [{ order77 with items := [{ item1 with mode := m, stored := some { light := 24300, high := false } }] }],
              building := [] } }) stand

theorem test_witness_MeteringFillsTheQueue_fill :
    { stand with contexts := [step1] }.contexts ≠ [] ∧ stand.contexts = [] ∧ stand.openRoll = some roll412 ∧
    stand.active = some (order77, item1) ∧ stand.film roll412.film = some film3 ∧ item1.mode = .copy 0 ∧
    item1.steps = some [.pending, .pending, .pending] ∧ item1.captured = some [0, -4, 4] ∧ item1.currentSet = some 1 ∧
    ((inMode (.stage (-24))).active.bind fun p => p.2.stored) = some { light := 24300, high := false } ∧
    ((inMode (.manual 191 .stage)).active.map fun p => p.2.mode) = some (.manual 191 .stage) := by decide

theorem test_witness_FilmPlanAndTrimRequests : stand.canTake = true ∧ stand.film 3 = some film3 ∧ stand.film 1 = none ∧
    stand.film 8 = none ∧ stand.plan 1 = some [0, -4, 4] ∧ stand.plan 7 = none := by decide

theorem test_witness_BrightnessLogarithm : 2 ^ 15 ≤ 65535 ∧ 65535 < 2 ^ 16 ∧ 2 ^ 0 ≤ 1 ∧ 1 < 2 ^ 1 ∧ 1 ≤ 65535 := by decide

theorem test_witness_StepLogAndPlannedTicks :
    film3.recip.Pairwise (fun a b => a.threshold < b.threshold) ∧ (∀ x ∈ film3.recip, 1 ≤ x.extra) ∧
    (∃ x ∈ film3.recip, (x.threshold : Int) ≤ 120 + 0 ∧ x.extra = 2 ∧
      ∀ y ∈ film3.recip, (y.threshold : Int) ≤ 120 + 0 → y.threshold ≤ x.threshold) ∧
    (∀ y ∈ film3.recip, (119 : Int) + 0 < y.threshold) := by decide

theorem test_witness_ContextQueries : stand.canTake = true := by decide

theorem test_witness_ShutterOpensOrTimesOut :
    (exposing .opening false 0).live = true ∧ (exposing .opening false 0).shutter.held = some step1 ∧
    (exposing .opening false 0).shutter.phase = .opening ∧ (exposing .opened true 812).shutter.phase = .opened ∧
    (exposing .opened true 812).shutter.phase ≠ .opening ∧ stand.shutter.phase ≠ .opened := by decide

/-- An exposure in OPEN that an ABRT has closed. -/
def abortedOpen : State := after .abrt (exposing .opened true 100)

theorem test_witness_ShutterClosesWithOutcome :
    (exposing .opened true 884).live = true ∧ (exposing .opened true 884).shutter.contactOpen = true ∧
    (exposing .opened true 884).shutter.held = some step1 ∧ (exposing .opened true 884).gateFrame = some gate ∧
    (exposing (.closing (some .normal) true) true 884).shutter.phase = .closing (some .normal) true ∧
    (exposing (.closing (some .lamp) false) true 884).shutter.phase = .closing (some .lamp) false := by decide

theorem test_witness_ShutterClosesWithOutcome_idle :
    abortedOpen.live = true ∧ abortedOpen.shutter.contactOpen = true ∧ abortedOpen.shutter.phase = .closing none false ∧
    stand.live = true ∧ stand.shutter.contactOpen = false ∧ stand.shutter.phase = .idle ∧
    (after .contactOpen stand).shutter.contactOpen = true ∧ (after .contactOpen stand).shutter.phase = .idle ∧
    (exposing .opening true 0).shutter.phase = .opening := by decide

theorem test_witness_OrderAndItemRequests : stand.canTake = true := by decide
theorem test_witness_PostHoldAndFree : stand.canTake = true ∧ (0 : Int) ≤ 0 ∧ (-1 : Int) < 0 := by decide
theorem test_witness_CancelEndsItems : stand.canTake = true := by decide

/-- The stand with order 77 WAITING and its item PENDING. -/
def offered : State :=
  withStore (fun r => { r with
    book := { posted := [{ order77 with state := .waiting, items := [{ item1 with state := .pending }] }], building := [] } }) stand

theorem test_witness_RunSelectsNextItem : offered.canTake = true ∧
    offered.order 77 = some { order77 with state := .waiting, items := [{ item1 with state := .pending }] } ∧
    ([{ item1 with state := .pending }].find? fun i => i.state == .pending) = some { item1 with state := .pending } ∧
    offered.account 12 = some account12 ∧
    offered.store.rates[account12.cls - 1]? =
      some { frame := 450, reject := 150, spoil := 0, label := 120, minimum := 2000, rush := 250 } ∧
    offered.plan item1.plan = some [0, -4, 4] := by decide

/-- A PENDING item that is cancelled settles, with nothing to charge: its order goes, and the DONE notice has its cancelled mark. -/
theorem test_cancelPendingItem :
    ((offered.cancelPendingItem 77 1).store.book.posted, (offered.cancelPendingItem 77 1).outbox.tx) =
      ([], .notice (.done 77 1 true)) := by decide

/-- The stand with a warm copy lamp and contexts. -/
def lit (warm : Bool) (l : List Context) (frames : List Frame) : State :=
  withStore (fun r => { r with frames := frames })
    { stand with contexts := l, cycle := { stand.cycle with copyLamp := { on := true, warm := warm } } }

theorem test_witness_WarmupAndGoingForward_elsewhere :
    stand.cycle.state ≠ .place ∧ stand.canTake = true ∧ (holdingNothing.live = true ∧ holdingNothing.active = none) := by decide

theorem test_witness_WarmupAndGoingForward :
    stand.active = some (order77, item1) ∧ (standIn .place).canTake = true ∧ stand.live = true ∧
    item1.mode.source ≠ .manual ∧ (lit false [] [gate]).contexts = [] ∧ (lit true [] [gate]).cycle.copyLamp.warm = true ∧
    (lit true [] [gate]).meter.metering = none ∧ (lit true [step1] []).contexts ≠ [] ∧ (lit true [step1] []).gateFrame = none ∧
    (lit false [step1] [gate]).gateFrame ≠ none ∧ (lit false [step1] [gate]).cycle.copyLamp.warm = false ∧
    (lit true [step1] [gate]).contexts = step1 :: [] ∧ (lit true [step1] [gate]).shutter.phase = .idle ∧
    (lit true [step1] [gate]).shutter.contactOpen = false ∧
    ({ lit true [step1] [gate] with shutter := { stand.shutter with contactOpen := true } } : State).shutter.contactOpen = true := by
  decide

/-- A MANUAL item on the gate frame and without one, with a warm and a cold copy lamp. -/
theorem test_witness_WarmupAndGoingForward_manual :
    ((inMode (.manual 80 .copy)).active.map fun p => p.2.mode) = some (.manual 80 .copy) ∧ (inMode (.manual 80 .copy)).contexts = [] ∧
    ((inMode (.manual 80 .copy)).fill .manual).contexts ≠ [] ∧ ((inMode (.manual 80 .copy)).fill .manual).gateFrame ≠ none ∧
    ((withStore (fun r => { r with frames := [] }) (inMode (.manual 80 .copy))).fill .manual).gateFrame = none ∧
    ((withStore (fun r => { r with rolls := [] }) (inMode (.manual 80 .copy))).fill .manual).contexts = [] ∧
    (inMode (.manual 80 .copy)).cycle.copyLamp.warm = false ∧
    (({ inMode (.manual 80 .copy) with cycle := (lit true [] []).cycle } : State).fill .manual).shutter.phase = .idle ∧
    (({ inMode (.manual 80 .copy) with cycle := (lit true [] []).cycle } : State).fill .manual).shutter.contactOpen = false := by
  decide

theorem test_witness_LampsQueriesAndPause : stand.canTake = true := by decide

theorem test_witness_AbortStopsEverything :
    (exposing .opened true 100).canTake = true ∧ (advancing .wind (.settling 40)).canTake = true := by decide

theorem test_witness_ResumeLeavesHalt : (standIn (.halted .lamp (some 412))).canTake = true := by decide

/-- The glyph whose top row is marked. -/
def topRow : Vector Byte 12 := Vector.ofFn fun i => if i.val = 0 then 0xFF#8 else 0#8

theorem test_witness_GlyphRequests : stand.canTake = true ∧ glyphOf "Ff".toList = some topRow ∧ 2 * 0 + 1 < "Ff".toList.length ∧
    "Ff".toList.length ≤ 2 * 1 + 1 := by decide

theorem test_witness_EmblemRequests : stand.canTake = true := by decide

/-- The emblem window of the manual's worked sequence, its last byte to be written next. -/
def windowed : State := { stand with composer := { stand.composer with x0 := 10, x1 := 29, y0 := 20, y1 := 21, stream := some (1, 2) } }

theorem test_witness_DotsFillTheWindow :
    windowed.canTake = true ∧ windowed.composer.x0 ≤ windowed.composer.x1 ∧ windowed.composer.x1 ≤ 63 ∧
    windowed.composer.y0 ≤ windowed.composer.y1 ∧ windowed.composer.y1 ≤ 55 ∧ windowed.composer.stream = some (1, 2) ∧
    1 < 21 - 20 + 1 ∧ 2 < (29 - 10 + 8) / 8 ∧ hexBytes "FFF".toList = none ∧ "FFAA".toList ≠ [] ∧
    hexBytes "FFAA".toList = some [0xFF, 0xAA] ∧ (5 + 0) % 6 = (21 - 20) * 3 + (29 - 10) / 8 ∧
    (5 + 1) % 6 = (20 - 20) * 3 + (10 - 10) / 8 := by decide

theorem test_witness_LabelTextOfFrame : stand.canTake = true ∧ 1 ≤ 36 ∧ 36 ≤ 36 := by decide

theorem test_witness_LabelEdgeComposes :
    (labelling frame5 (inHand .feeding .queue 30)).live = true ∧
    (labelling frame5 (inHand .feeding .queue 30)).printer.state = .feeding ∧
    (labelling frame5 (inHand .feeding .queue 30)).printer.hand = some { roll := 412, frame := 5, kind := .queue } ∧
    (labelling frame5 (inHand .feeding .queue 30)).frameAt 412 5 = some frame5 ∧ stand.printer.state ≠ .feeding ∧
    (((labelling frame5 fun p => p).labelLines frame5).1[(40 - 4) / 12]?).getD [] = "412/005 D64 +1/3".toList ∧
    ("412/005 D64 +1/3".toList)[(191 - 64) / 8]? = some '3' ∧ ("412/005 D64 +1/3".toList).length ≤ (192 - 64) / 8 ∧
    32 ≤ '3'.toNat ∧ '3'.toNat ≤ 126 ∧ stand.store.glyphs['3'.toNat - 32]? = some (Vector.replicate 12 0) := by decide

theorem test_witness_PrntQueuesDueFrames : (labelling frame5 fun p => p).canTake = true := by decide

theorem test_witness_LabelChannelRequests :
    stand.canTake = true ∧ stand.printer.state = .idle ∧
    (labelling frame5 (inHand .printing .queue 31)).canTake = true ∧
    (labelling frame5 (inHand .printing .queue 31)).printer.state = .printing ∧
    (labelling frame5 (inHand .printing .queue 31)).printer.hand = some { roll := 412, frame := 5, kind := .queue } ∧
    (labelling frame5 (inHand (.stalled .noGap) .rprt 120)).printer.state = .stalled .noGap ∧
    (labelling frame5 (inHand (.stalled .noGap) .rprt 120)).printer.hand = some { roll := 412, frame := 5, kind := .rprt } := by
  decide

theorem test_witness_FeedAndPaperEvents :
    stand.live = true ∧ stand.printer.state ≠ .feeding ∧
    (labelling frame5 (inHand .feeding .queue 118)).printer.rows + 1 < 120 ∧
    (labelling frame5 (inHand .feeding .queue 119)).printer.rows + 1 = 120 ∧
    (labelling frame5 (inHand .feeding .queue 119)).printer.hand = some { roll := 412, frame := 5, kind := .queue } ∧
    (labelling frame5 fun p => { inHand (.stalled .paper) .queue 31 p with paperOut := true }).printer.paperOut = true ∧
    (labelling frame5 (inHand (.stalled .noGap) .queue 120)).printer.paperOut = false ∧
    (labelling frame5 (inHand (.stalled .paper) .queue 31)).printer.state = .stalled .paper ∧
    (labelling frame5 (inHand .presenting .queue 0)).printer.state = .presenting := by decide

theorem test_witness_PrintedRowsAndCompletion :
    stand.live = true ∧ stand.printer.state ≠ .presenting ∧
    (labelling frame5 (inHand .presenting .queue 22)).printer.rows < 23 ∧
    (labelling frame5 (inHand .presenting .queue 23)).printer.rows = 23 ∧
    (labelling frame5 (inHand .presenting .queue 23)).printer.hand = some { roll := 412, frame := 5, kind := .queue } ∧
    (labelling frame5 (inHand .presenting .queue 23)).frameAt 412 5 = some frame5 ∧ frame5.ref = some (refOf 3 4) ∧
    (labelling frame5 (inHand .presenting .rprt 23)).printer.hand = some { roll := 412, frame := 5, kind := .rprt } := by decide

theorem test_witness_RateAndTierRequests : stand.canTake = true := by decide
theorem test_witness_AccountRequests : stand.canTake = true := by decide

/-- R153: the account's range stands before the second word. -/
theorem test_acct_range_first :
    refusalOf "ACCT 0,XYZ" = some (refuseAt .range 1) ∧ refusalOf "ACCT 40,XYZ" = some (refuseAt .range 2) ∧
    refusalOf "ACCT 40,Remove" = some (refuseAt .form 2) := by decide

/-- A journal of so many entries and one settlement waiting. -/
def waitingFor (n : Nat) : State :=
  { withStore (fun r => { r with
      journal := List.replicate n { seq := 1, account := 12, order := 77, detail := none, amount := 0 } }) chosen with
    waiting := [.item 77 1] }

theorem test_witness_TakeAndWaitingList :
    stand.canTake = true ∧ stand.live = true ∧ stand.waiting = [] ∧ 128 ≤ (waitingFor 128).store.journal.length ∧
    (waitingFor 127).waiting = .item 77 1 :: [] ∧ (waitingFor 127).store.journal.length < 128 ∧ stand.order 78 = none :=
  ⟨by decide, by decide, by decide, Nat.le_of_eq List.length_replicate.symm, by decide,
    Nat.lt_of_le_of_lt (Nat.le_of_eq List.length_replicate) (by decide), by decide⟩

/-- Item 77.1 ended, with its frame PRINTED. -/
def settling : State :=
  withStore (fun r => { r with frames := [{ frame5 with label := .printed }] }) chosen

theorem test_witness_ItemSettles :
    settling.order 77 = some { order77 with items := [{ item1 with state := .done }] } ∧
    ([{ item1 with state := .done }].find? fun i => i.number == 1) = some { item1 with state := .done } ∧
    settling.account 12 = some account12 ∧
    item1.rates = some { frame := 450, reject := 150, spoil := 0, label := 120, rush := 250 } ∧
    (∀ f ∈ settling.store.frames, ∀ q, f.ref = some q → q.order = 77 → q.item = 1 →
      (f.state = .exposed → f.selection = some .kept ∨ f.selection = some .rejected) ∧
      (f.selection = some .kept → f.label = .printed)) ∧
    (∀ c, settling.shutter.held = some c → ¬(c.ref.order = 77 ∧ c.ref.item = 1)) ∧ .item 77 1 ∉ settling.waiting ∧
    ¬(item1.state = .done ∨ item1.state = .cancelled) := by
  refine ⟨by decide, by decide, by decide, by decide, ?_, ?_, by decide, by decide⟩
  · intro f hf q hq _ _
    obtain rfl : f = { frame5 with label := .printed } := by
      simpa [settling, withStore] using hf
    exact ⟨fun _ => .inl rfl, fun _ => rfl⟩
  · intro c hc
    simp [settling, chosen, withStore, labelling, stand, State.reset, State.cold, Shutter.start] at hc

/-- An order with one SETTLED item, a minimum of 2,000 mills and a running amount. -/
def settledOrder (running : Nat) : Order :=
  { order77 with minimum := some 2000, running := running, items := [{ item1 with state := .settled }] }

/-- The stand with an order. -/
def holding (o : Order) : State := withStore (fun r => { r with book := { posted := [o], building := [] } }) stand

theorem test_witness_ItemSettles_finalCheck :
    stand.order 77 = some order77 ∧ (∃ i ∈ order77.items, i.state ≠ .settled) ∧
    (holding (settledOrder 2000)).order 77 = some (settledOrder 2000) ∧
    (∀ i ∈ (settledOrder 2000).items, i.state = .settled) ∧
    (∀ m, (settledOrder 2000).minimum = some m → m ≤ (settledOrder 2000).running) ∧
    (holding (settledOrder 1999)).order 77 = some (settledOrder 1999) ∧
    (settledOrder 1999).minimum = some 2000 ∧ (settledOrder 1999).running < 2000 := by
  refine ⟨by decide, by decide, by decide, by decide, ?_, by decide, by decide, by decide⟩
  intro m h
  obtain rfl : (2000 : Nat) = m := by simpa [settledOrder] using h
  decide

theorem test_witness_LineSlotsReceive :
    (hearing [slotOf .ready [], slotOf .filling []] none).live = true ∧
    (hearing [slotOf .ready [], slotOf .filling []] none).link.slots = [slotOf .ready []] ++ slotOf .filling [] :: [] ∧
    (∀ y ∈ [slotOf .ready []] ++ [], y.state ≠ .filling) ∧ (0x20#8 ≠ 10 ∧ 0x20#8 ≠ 13) ∧
    (stand.link.slots.any fun x => x.state == .filling) = false ∧
    (hearing [slotOf .ready [], slotOf .timedOut []] (some .overrun)).link.lost = some .overrun ∧
    (hearing [slotOf .ready [], slotOf .timedOut []] (some .overrun)).link.slots =
      [slotOf .ready []] ++ slotOf .timedOut [] :: [] ∧ (slotOf .timedOut []).state ≠ .filling ∧
    (∀ y ∈ (hearing [] (some .overrun)).link.slots, y.state = .filling) ∧ stand.link.lost ≠ some .overrun := by decide

theorem test_witness_DispatchAndSending :
    (after .powerFailWarning stand).canTake = false ∧ (∀ x ∈ stand.link.slots, x.state = .filling) ∧
    (hearing [slotOf .filling [], slotOf .ready "STAT".toList] none).canTake = true ∧
    (hearing [slotOf .filling [], slotOf .ready "STAT".toList] none).link.slots =
      [slotOf .filling []] ++ slotOf .ready "STAT".toList :: [] ∧ (∀ y ∈ [slotOf .filling []], y.state = .filling) ∧
    (slotOf .timedOut []).state = .timedOut ∧ (slotOf .ready "STAT".toList).tooLong = false ∧
    (slotOf .ready "STAT".toList).malformed = false ∧ stand.live = true ∧ stand.outbox.tx = .idle ∧
    (stand.raise (.place 77 1)).outbox.tx = .notice (.place 77 1) ∧ (after .stat stand).outbox.tx = .reply ∧
    (after .stat stand).link.replies.length = 1 := by decide

theorem test_witness_DispatchAndSending_lines : checkLine "STAT".toList = .ok (.stat, .stat) ∧
    checkLine "STA".toList = .error (refuse .form) := ⟨rfl, rfl⟩

/-- A line that is no RUN or GO, with its first four characters not all capitals, a fifth that is no space, an unknown verb, and one
with fields; and fields of each form before one that fails. -/
theorem test_witness_DispatchAndSending_fields :
    shortVerb "STA".toList = none ∧ shortVerb "STATX".toList = none ∧ ("STATX".toList).drop 4 = 'X' :: [] ∧
    (∀ c ∈ ("STATX".toList).take 4, 'A' ≤ c ∧ c ≤ 'Z') ∧ shortVerb "XYZW 1".toList = none ∧
    (Verb.all.all fun v => v.text != "XYZW".toList) = true ∧ Verb.text .drop = ("DROP 1 2".toList).take 4 ∧
    parseFields ("DROP 1 2".toList.drop 5) = .error 1 ∧ parseFields (",a,\"b\"\"\",".toList) =
      .ok [.empty, .plain ['a'], .quoted ['b', '"'], .empty] ∧ parseFields "a,\"b\"c".toList = .error 2 ∧
    parseFields "a,\"b".toList = .error 2 ∧ parseFields (List.replicate 24 ',') = .ok (List.replicate 25 .empty) :=
  ⟨by decide, by decide, by decide, by simp, by decide, by decide, by decide, rfl, rfl, rfl, rfl, rfl⟩

theorem test_witness_StatAndMems : stand.canTake = true := by decide

/-- A part without supply whose battery was exhausted. -/
def dead : State := after .batteryExhausted (after .vccFailure (after .powerFailWarning stand))

theorem test_witness_ColdStartValues :
    dead.supply ≠ .running ∧ dead.store.valid = false ∧ ({ stand with wipeDue := true } : State).live = true ∧
    stand.wipeDue = false ∧ stand.supply = .running ∧ dead.supply = .off := by decide

theorem test_witness_WarmStartRestores :
    stand.supply = .running ∧ (after .powerFailWarning stand).supply ≠ .running ∧ stand.supply ≠ .warned ∧
    (after .powerFailWarning stand).supply = .warned ∧ (after .powerFailWarning stand).store.valid = true := by decide

/-- A command that waits behind a warning, the writes of an exposure's end and of each start, and a part that a power-on waits at. -/
theorem test_witness_WarmStartRestores_writes :
    stand.pending = [] ∧ ({ stand with pending := [.indexEdge] } : State).pending.head? = some .indexEdge ∧
    ({ dead with pending := [.powerOn] } : State).pending.head? = some .powerOn ∧ dead.supply ≠ .running ∧
    dead.store.valid = false ∧ (dead.writesOf .powerOn).length = 3 ∧
    ({ stand with wipeDue := true } : State).live = true ∧ ({ stand with wipeDue := true }.writesOf .wipeColdStart).length = 3 ∧
    (exposing (.closing (some .normal) false) true 100).gateFrame ≠ none ∧
    (exposing (.closing (some .normal) false) true 100).writesOf .contactClosed ≠ [] := by decide

/-- R179: the two frames that a splice passes over are two writes, and a warning between them finds the first alone. -/
theorem test_splice_frames_are_two_writes :
    ((withStore (fun t => { t with zones := [{ kind := .splice, low := 1728, high := 2111 }] }) (bare roll412)).writesOf .wind).map
      (fun t => t.frames.length) = [1, 2, 3] := by decide

theorem test_witness_ResetsAndWipe : stand.canTake = true ∧ stand.live = true ∧ (after .resetLine stand).live = false := by decide

end Sys2Proof.Tests
end

/-! PROOFS. The statements on chapter 4, Exposure and bracketing, on the tick of an empty queue and on the cancellation of
chapter 5. First what these proofs read of the shared operations: clamping, a request that its owner answers, and the notices. -/

namespace Sys2Proof.ExposureLaws

open Sys2Proof.Machine

/-! ## Clamping -/

theorem clampInt_eq_nearest {lo hi : Int} (h : lo ≤ hi) (v : Int) : clampInt lo hi v = nearest lo hi v := by
  unfold clampInt nearest
  split
  · omega
  · split <;> omega

theorem clampNat_eq_nearest {lo hi : Nat} (h : lo ≤ hi) (v : Int) : clampNat lo hi v = (nearest lo hi v).toNat := by
  unfold clampNat
  rw [clampInt_eq_nearest (by omega)]

theorem inRange_iff (lo hi v : Int) : inRange lo hi v = true ↔ lo ≤ v ∧ v ≤ hi := by simp [inRange]

/-- R173: the report of a list of fields names the first field when it was clamped, and then the others. -/
theorem clampReport_cons (n : Nat) (lo hi v : Int) (l : List (Nat × Bool)) :
    clampReport ((n, inRange lo hi v) :: l) = clampedAt n lo hi v ++ clampReport l := by
  by_cases h : lo ≤ v ∧ v ≤ hi
  · simp [clampReport, clampedAt, h, (inRange_iff lo hi v).mpr h]
  · have out : inRange lo hi v = false := by rw [← Bool.not_eq_true, inRange_iff]; exact h
    simp [clampReport, clampedAt, h, out]

@[simp] theorem clampReport_nil : clampReport [] = [] := rfl

/-! ## Requests -/

/-- R170: a request whose owner takes the reservation of the transmitter along is answered as if nothing were reserved. -/
theorem request_answered (v : Verb) (own : State → State × Answer) (s t : State) (a : Answer) (c : s.canTake = true)
    (h : own s.reserveTx = (t.reserveTx, a)) : request v own s = .next (t.replied v a) := by
  rw [request_taken v own s c (by rw [h]; exact State.reserveTx_busy t), h, State.replied_reserve]

/-- An update that neither reads nor writes the outbox can be made before the reservation or after it. -/
theorem reserveTx_comm (f : State → State)
    (h : ∀ (s : State) (o : Outbox), f { s with outbox := o } = { f s with outbox := o }) (s : State) :
    f s.reserveTx = (f s).reserveTx := by
  have same : (f s).outbox = s.outbox := by simpa using congrArg State.outbox (h s s.outbox)
  rw [State.reserveTx_eq, State.reserveTx_eq, h, same]

/-! ## Notices -/

@[simp] theorem raise_cycle (n : Notice) (s : State) : (s.raise n).cycle = s.cycle := by rw [State.raise_eq]

/-! ## The empty queue (R86, R87) -/

/-- Settles O2: one tick, in each phase of the exposure. -/
theorem emptyQueueTicksShutter : Obligations.EmptyQueueTicksShutter := by
  intro s empty
  have ticked : step s = .next s.idle := by simp [step, empty]
  have running : s.live = true → s.idle = s.shutterTick := fun live => by simp [State.idle, live]
  refine ⟨fun live c phase held before room => ?_, fun live c phase held last room => ?_,
    fun live p b phase => ?_, fun still => ?_⟩
  · have count : min Config.maxTicks (s.shutter.ticks + 1) = s.shutter.ticks + 1 := by omega
    have early : ¬ c.planned ≤ s.shutter.ticks + 1 := by omega
    rw [ticked, running live]
    simp [State.shutterTick, phase, State.planExpired, held, count, early]
  · have count : min Config.maxTicks (s.shutter.ticks + 1) = c.planned := by omega
    rw [ticked, running live]
    simp [State.shutterTick, phase, State.planExpired, State.expirePlan, held, count, State.startClosing, State.closeCommand]
  · rw [ticked, running live]
    simp [State.shutterTick, phase, Config.maxTicks]
  · rw [ticked]
    obtain dead | idle | opening := still
    · simp [State.idle, dead]
    · simp [State.idle, State.shutterTick, idle]
    · simp [State.idle, State.shutterTick, opening]

/-! ## The brightness logarithm (R71) -/

/-- FRAC never falls and never passes 11. -/
theorem frac_mono {i j : Nat} (h : i ≤ j) (hj : j < 16) : (Config.frac[i]?).getD 0 ≤ (Config.frac[j]?).getD 0 := by
  have table : ∀ j < 16, ∀ i ≤ j, (Config.frac[i]?).getD 0 ≤ (Config.frac[j]?).getD 0 := by decide
  exact table j hj i h

theorem frac_le (i : Nat) : (Config.frac[i]?).getD 0 ≤ 11 := by
  by_cases h : i < 16
  · exact frac_mono (j := 15) (by omega) (by omega)
  · simp [Config.frac, show 16 ≤ i by omega]

/-- The four bits of a light value below its highest, as R71 takes them. -/
def bitsBelow (l k : Nat) : Nat := l * 16 / 2 ^ k - 16

/-- R71: the brightness logarithm of a light value in the doubling that begins at 2 to the power k. -/
theorem brightness_eq {l k : Nat} (lo : 2 ^ k ≤ l) (hi : l < 2 ^ (k + 1)) :
    brightness l = 12 * k + (Config.frac[bitsBelow l k]?).getD 0 := by
  have pos : l ≠ 0 := by have := Nat.two_pow_pos k; omega
  have log : Nat.log2 l = k := (Nat.log2_eq_iff pos).mpr ⟨lo, hi⟩
  simp [brightness, log, bitsBelow]

theorem bitsBelow_lt {l k : Nat} (hi : l < 2 ^ (k + 1)) : bitsBelow l k < 16 := by
  have top : l * 16 / 2 ^ k < 32 := by
    rw [Nat.div_lt_iff_lt_mul (Nat.two_pow_pos k)]
    rw [Nat.pow_succ] at hi
    omega
  unfold bitsBelow
  omega

theorem bitsBelow_mono (k : Nat) {l m : Nat} (h : l ≤ m) : bitsBelow l k ≤ bitsBelow m k :=
  Nat.sub_le_sub_right (Nat.div_le_div_right (Nat.mul_le_mul_right 16 h)) 16

theorem bitsBelow_double (l k : Nat) : bitsBelow (2 * l) (k + 1) = bitsBelow l k := by
  unfold bitsBelow
  rw [Nat.pow_succ, Nat.mul_comm (2 ^ k) 2, Nat.mul_assoc, Nat.mul_div_mul_left _ _ (by omega)]

/-- Every light value of 1 or more lies in one doubling. -/
theorem log2_bounds {l : Nat} (h : 1 ≤ l) : 2 ^ Nat.log2 l ≤ l ∧ l < 2 ^ (Nat.log2 l + 1) :=
  (Nat.log2_eq_iff (by omega)).mp rfl

theorem brightness_double {l : Nat} (h : 1 ≤ l) : brightness (2 * l) = brightness l + 12 := by
  obtain ⟨lo, hi⟩ := log2_bounds h
  have lo' : 2 ^ (Nat.log2 l + 1) ≤ 2 * l := by rw [Nat.pow_succ]; omega
  have hi' : 2 * l < 2 ^ (Nat.log2 l + 1 + 1) := by rw [Nat.pow_succ]; omega
  rw [brightness_eq lo' hi', brightness_eq lo hi, bitsBelow_double]
  omega

/-- A brighter value lies in the same doubling with no fewer bits, or in a later one. -/
theorem brightness_mono {l m : Nat} (h : 1 ≤ l) (le : l ≤ m) : brightness l ≤ brightness m := by
  obtain ⟨lo, hi⟩ := log2_bounds h
  obtain ⟨lo', hi'⟩ := log2_bounds (Nat.le_trans h le)
  have order : Nat.log2 l ≤ Nat.log2 m := by
    have := (Nat.pow_lt_pow_iff_right (a := 2) (by omega)).mp (Nat.lt_of_le_of_lt (Nat.le_trans lo le) hi')
    omega
  rw [brightness_eq lo hi, brightness_eq lo' hi']
  obtain later | same := Nat.lt_or_eq_of_le order
  · have := frac_le (bitsBelow l (Nat.log2 l))
    omega
  · have := frac_mono (bitsBelow_mono (Nat.log2 m) le) (bitsBelow_lt hi')
    rw [same]
    omega

/-- Settles O29: R71's doubling of a light value is found by its logarithm. -/
theorem brightnessLogarithm : Obligations.BrightnessLogarithm := by
  refine ⟨fun l k lo hi => brightness_eq lo hi, fun l => brightness_double, fun l m => brightness_mono, fun l one top => ?_⟩
  calc brightness l ≤ brightness 65535 := brightness_mono one top
    _ = 191 := by decide

/-! ## The log T and the planned ticks of a step (R73, R74) -/

/-- R73: in a list whose thresholds rise, the highest threshold at or below T1 is the last of them. -/
theorem recipExtra_of_highest {recip : List RecipStep} {t1 : Int} {x : RecipStep}
    (rising : recip.Pairwise fun a b => a.threshold < b.threshold) (mem : x ∈ recip) (below : (x.threshold : Int) ≤ t1)
    (highest : ∀ y ∈ recip, (y.threshold : Int) ≤ t1 → y.threshold ≤ x.threshold) : recipExtra recip t1 = x.extra := by
  have found : x ∈ recip.filter fun r => (r.threshold : Int) ≤ t1 := by simp [mem, below]
  obtain ⟨front, y, last⟩ : ∃ front y, (recip.filter fun r => (r.threshold : Int) ≤ t1) = front ++ [y] :=
    ⟨_, _, (List.dropLast_concat_getLast (List.ne_nil_of_mem found)).symm⟩
  have sorted := rising.filter fun r => decide ((r.threshold : Int) ≤ t1)
  have member : y ∈ recip.filter fun r => (r.threshold : Int) ≤ t1 := by simp [last]
  have top : y.threshold ≤ x.threshold := by
    obtain ⟨inList, reached⟩ := List.mem_filter.mp member
    exact highest y inList (of_decide_eq_true reached)
  rw [last] at found sorted
  obtain ⟨-, -, beforeLast⟩ := List.pairwise_append.mp sorted
  have same : x = y := by
    obtain early | rfl := by simpa using found
    · have := beforeLast x early y (by simp)
      omega
    · rfl
  simp [recipExtra, last, same]

/-- R73: with every threshold above T1 there is no extra. -/
theorem recipExtra_of_none {recip : List RecipStep} {t1 : Int} (above : ∀ y ∈ recip, t1 < y.threshold) :
    recipExtra recip t1 = 0 := by
  have none : (recip.filter fun r => (r.threshold : Int) ≤ t1) = [] := by simpa using above
  simp [recipExtra, none]

/-- R74: the planned ticks of a log T of 0..191, at both ends of the table. -/
theorem plannedTicks_bounds {t : Nat} (h : t ≤ 191) : 8 ≤ plannedTicks t ∧ plannedTicks t ≤ 494592 := by
  have table : ∀ r < 12, 256 ≤ (Config.antilog[r]?).getD 0 ∧ (Config.antilog[r]?).getD 0 ≤ 483 := by decide
  obtain ⟨least, most⟩ := table (t % 12) (Nat.mod_lt t (by omega))
  have power : 2 ^ (t / 12) ≤ 2 ^ 15 := Nat.pow_le_pow_right (by omega) (by omega)
  constructor
  · calc 8 = 256 * 1 / 32 := rfl
      _ ≤ plannedTicks t := Nat.div_le_div_right (Nat.mul_le_mul least Nat.one_le_two_pow)
  · calc plannedTicks t ≤ 483 * 2 ^ 15 / 32 := Nat.div_le_div_right (Nat.mul_le_mul most power)
      _ = 494592 := rfl

/-- R72 (stage 4), R73, R74: a step whose extra is known. -/
theorem computeStep_eq {recip : List RecipStep} {t0 offset : Int} {extra : Nat} (base : Flags)
    (h : recipExtra recip (t0 + offset) = extra) :
    computeStep t0 recip base offset =
      { logT := (nearest 0 191 (t0 + offset + extra)).toNat
        planned := plannedTicks (nearest 0 191 (t0 + offset + extra)).toNat
        flags :=
          { base with
            recip := decide (extra ≠ 0)
            clampLow := decide (t0 + offset + extra < 0)
            clampHigh := decide (191 < t0 + offset + extra) } } := by
  have given : (extra != 0) = decide (extra ≠ 0) := by cases extra <;> rfl
  have clamped : ∀ v, clampNat 0 191 v = (nearest 0 191 v).toNat := clampNat_eq_nearest (by omega)
  simp only [computeStep, h, given, clamped, gt_iff_lt]

/-- Settles O30: the extra is the one of the highest threshold at or below T1, and the ticks are read from R74's table. -/
theorem stepLogAndPlannedTicks : Obligations.StepLogAndPlannedTicks := by
  intro t0 offset recip base rising _ extra given
  have known : recipExtra recip (t0 + offset) = extra := by
    obtain ⟨x, mem, below, rfl, highest⟩ | ⟨rfl, above⟩ := given
    · exact recipExtra_of_highest rising mem below highest
    · exact recipExtra_of_none above
  have clamped : (nearest 0 191 (t0 + offset + extra)).toNat ≤ 191 := by unfold nearest; omega
  obtain ⟨low, high⟩ := plannedTicks_bounds clamped
  dsimp only
  rw [computeStep_eq base known]
  exact ⟨rfl, rfl, low, high, rfl⟩

/-! ## The opening of an exposure (R83, R85 to R87) -/

/-- Settles O32: each event in the phase it belongs to, and outside it. -/
theorem shutterOpensOrTimesOut : Obligations.ShutterOpensOrTimesOut := by
  intro s live lit
  refine ⟨?_, fun c held phase => ?_, fun phase => ?_, fun c held phase => ?_, fun phase => ?_⟩
  · have taken : exec .contactOpen s = .next lit.contactOpens := by
      simp only [exec, execContactOpen, whenLiveLine, live, if_true]; rfl
    rw [taken]
    simp only [State.contactOpens, State.openShutter, beq_iff_eq]
    rfl
  · have taken : exec .openTimeout s = .next (s.outcomeShutOpen c) := by
      simp [exec, execOpenTimeout, whenLive, live, State.openTimeout, phase, held]
    rw [taken]
    simp only [State.outcomeShutOpen, State.reportFault, beq_iff_eq]
    rfl
  · have ignored : s.openTimeout = s := by
      unfold State.openTimeout
      split
      · contradiction
      · rfl
    simp [exec, execOpenTimeout, whenLive, ignored]
  · simp [exec, execPlannedTicksExpiry, whenLive, live, phase, State.expirePlan, held, State.startClosing, State.closeCommand]
  · simp [exec, execPlannedTicksExpiry, whenLive, phase]

/-! ## FILM (R66, R67) -/

@[simp] theorem film_reserveTx (n : Nat) (s : State) : s.reserveTx.film n = s.film n := by simp [State.film]

@[simp] theorem plan_reserveTx (n : Nat) (s : State) : s.reserveTx.plan n = s.plan n := by simp [State.plan]

theorem setFilm_reserveTx (n : Nat) (r : FilmRecord) (s : State) : s.reserveTx.setFilm n r = (s.setFilm n r).reserveTx :=
  reserveTx_comm (State.setFilm n r) (fun _ _ => rfl) s

theorem clampRecip_eq (l : List (Int × Int)) :
    clampRecip l = l.map fun p => { threshold := (nearest 0 191 p.1).toNat, extra := (nearest 1 48 p.2).toNat } := by
  simp [clampRecip, clampNat_eq_nearest]

/-- R67: the first step whose threshold is not above the one before it, found among the pairs of neighbours. -/
theorem descent_eq (n : Nat) (l : List RecipStep) :
    descent n l = ((l.zip l.tail).findIdx? fun p => p.2.threshold ≤ p.1.threshold).map (n + 1 + ·) := by
  induction l generalizing n with
  | nil => rfl
  | cons a l ih =>
    cases l with
    | nil => rfl
    | cons b rest =>
      have pairs : (a :: b :: rest).zip (a :: b :: rest).tail = (a, b) :: (b :: rest).zip (b :: rest).tail := rfl
      rw [pairs, List.findIdx?_cons, descent, ih]
      by_cases h : b.threshold ≤ a.threshold
      · simp [h]
      · simp only [h, decide_false, Bool.false_eq_true, if_false, Option.map_map]
        exact Option.map_congr fun i _ => by simp only [Function.comp_apply]; omega

/-- R67, R173: the report of the reciprocity figures, two fields for each step. -/
theorem recipClamps_report (n k : Nat) (l : List (Int × Int)) :
    clampReport (recipClamps (n + 2 * k) l) = (l.zipIdx k).flatMap fun p =>
      clampedAt (n + 2 * p.2) 0 191 p.1.1 ++ clampedAt (n + 1 + 2 * p.2) 1 48 p.1.2 := by
  induction l generalizing k with
  | nil => rfl
  | cons p rest ih =>
    have next : n + 2 * k + 2 = n + 2 * (k + 1) := by omega
    have second : n + 2 * k + 1 = n + 1 + 2 * k := by omega
    rw [recipClamps, clampReport_cons, clampReport_cons, next, second, ih]
    simp

/-- R67, R173: the reciprocity figures of a FILM write begin at field 5. -/
theorem recipClamps_report_five (l : List (Int × Int)) :
    clampReport (recipClamps 5 l) = l.zipIdx.flatMap fun p =>
      clampedAt (5 + 2 * p.2) 0 191 p.1.1 ++ clampedAt (6 + 2 * p.2) 1 48 p.1.2 := recipClamps_report 5 0 l

theorem filmWrite_taken (id : Int) (name code : Text) (k : Int) (recip : List (Int × Int)) (s : State)
    (c : s.canTake = true) :
    exec (.filmWrite id name code k recip) s =
      .next ((ownFilmWrite id name code k recip s).1.replied .film (ownFilmWrite id name code k recip s).2) := by
  refine request_answered .film _ s _ _ c ?_
  unfold ownFilmWrite
  split
  · rfl
  split
  · rfl
  split
  · rfl
  split
  · rfl
  cases descent 0 (clampRecip recip) with
  | some i => rfl
  | none => simp only [setFilm_reserveTx]

theorem filmQuery_taken (asked : Option Int) (s : State) (c : s.canTake = true) :
    exec (.filmQuery asked) s = .next (s.replied .film (ownFilmQuery asked s)) := by
  have same : ownFilmQuery asked s.reserveTx = ownFilmQuery asked s := by simp [ownFilmQuery]
  rw [← same]
  exact query_taken .film (ownFilmQuery asked) s c

/-! ## PLAN (R68) -/

theorem setPlan_reserveTx (n : Nat) (l : List Int) (s : State) : s.reserveTx.setPlan n l = (s.setPlan n l).reserveTx :=
  reserveTx_comm (State.setPlan n l) (fun _ _ => rfl) s

/-- R68: the first offset that equals an earlier one; `seen` is what was read before `rest`, last first. -/
theorem repeated_eq (seen rest : List Int) :
    repeated seen rest seen.length =
      ((rest.zipIdx seen.length).find? fun p => ((seen.reverse ++ rest).take p.2).contains p.1).map Prod.snd := by
  induction rest generalizing seen with
  | nil => rfl
  | cons v rest ih =>
    have before : ((seen.reverse ++ v :: rest).take seen.length).contains v = seen.contains v := by
      rw [List.take_left' (by simp)]
      simp
    have next := ih (v :: seen)
    simp only [List.length_cons, List.reverse_cons, List.append_assoc, List.singleton_append] at next
    rw [repeated, List.zipIdx_cons, List.find?_cons]
    simp only [before]
    cases seen.contains v with
    | true => rfl
    | false => exact next

/-- R68: the first offset of a plan that equals an earlier one. -/
theorem repeated_first (l : List Int) :
    repeated [] l 0 = (l.zipIdx.find? fun p => (l.take p.2).contains p.1).map Prod.snd := repeated_eq [] l

/-- R68, R173: the report of the offsets, one field for each. -/
theorem planClamps_report (n k : Nat) (l : List Int) :
    clampReport (planClamps (k + n) l) = (l.zipIdx k).flatMap fun p => clampedAt (p.2 + n) (-36) 36 p.1 := by
  induction l generalizing k with
  | nil => rfl
  | cons v rest ih =>
    have next : k + n + 1 = k + 1 + n := by omega
    rw [planClamps, clampReport_cons, next, ih]
    simp

/-- R68, R173: the offsets of a PLAN write begin at field 2. -/
theorem planClamps_report_two (l : List Int) :
    clampReport (planClamps 2 l) = l.zipIdx.flatMap fun p => clampedAt (p.2 + 2) (-36) 36 p.1 := planClamps_report 2 0 l

theorem planWrite_taken (id : Int) (offsets : List Int) (s : State) (c : s.canTake = true) :
    exec (.planWrite id offsets) s =
      .next ((ownPlanWrite id offsets s).1.replied .plan (ownPlanWrite id offsets s).2) := by
  refine request_answered .plan _ s _ _ c ?_
  unfold ownPlanWrite
  split
  · rfl
  split
  · rfl
  split
  · rfl
  dsimp only
  cases repeated [] (offsets.map (clampInt (-36) 36)) 0 with
  | some i => rfl
  | none => simp only [setPlan_reserveTx]

theorem planQuery_taken (asked : Option Int) (s : State) (c : s.canTake = true) :
    exec (.planQuery asked) s = .next (s.replied .plan (ownPlanQuery asked s)) := by
  have same : ownPlanQuery asked s.reserveTx = ownPlanQuery asked s := by simp [ownPlanQuery]
  rw [← same]
  exact query_taken .plan (ownPlanQuery asked) s c

/-- Plan 0 is always the single offset 0. -/
theorem plan_zero (s : State) : s.plan 0 = some [0] := rfl

theorem plan_stored {n : Nat} (low : 1 ≤ n) (high : n ≤ 7) (s : State) : some (s.plan n) = s.store.plans[n - 1]? := by
  have room : n - 1 < 7 := by omega
  simp [State.plan, show n ≠ 0 by omega, room]

theorem film_stored {n : Nat} (low : 1 ≤ n) (high : n ≤ 8) (s : State) : some (s.film n) = s.store.films[n - 1]? := by
  have room : n - 1 < 8 := by omega
  simp [State.film, show n ≠ 0 by omega, room]

/-- A walk over the places of a list of optional records is a walk over its entries with their places. -/
theorem flatMap_range_eq_zipIdx {α β : Type} (g : Nat → α → List β) (l : List (Option α)) (k : Nat) :
    ((List.range l.length).flatMap fun i => ((l[i]?).join.map (g (i + k))).getD []) =
      (l.zipIdx k).flatMap fun p => (p.1.map (g p.2)).getD [] := by
  induction l generalizing k with
  | nil => rfl
  | cons a l ih =>
    have shift : ∀ i, i + 1 + k = i + (k + 1) := fun i => by omega
    simp [List.range_succ_eq_map, List.flatMap_map, ← ih, shift]

/-- R68: the list of all plans begins with plan 0. -/
theorem planQuery_all (s : State) : ownPlanQuery none s =
    ok ([numF 0, .num 0] ++ (s.store.plans.toList.zipIdx 1).flatMap fun p =>
      (p.1.map fun l => numF p.2 :: l.map RField.num).getD []) := by
  rw [← flatMap_range_eq_zipIdx (fun n (l : List Int) => numF n :: l.map RField.num)]
  have entries : ownPlanQuery none s =
      ok ((List.range 8).flatMap fun n => ((s.plan n).map fun l => numF n :: l.map RField.num).getD []) :=
    congrArg (fun f => ok ((List.range 8).flatMap f)) (funext fun n => by cases s.plan n <;> rfl)
  rw [entries]
  simp [List.range_succ_eq_map (n := 7), List.flatMap_map, State.plan]

/-! ## TRIM (R69) -/

theorem setTrim_reserveTx (l : Light) (v : Int) (s : State) : s.reserveTx.setTrim l v = (s.setTrim l v).reserveTx := by
  cases l
  · exact reserveTx_comm (State.setTrim .copy v) (fun _ _ => rfl) s
  · exact reserveTx_comm (State.setTrim .stage v) (fun _ _ => rfl) s

theorem trimWrite_taken (source : Option Light) (value : Int) (s : State) (c : s.canTake = true) :
    exec (.trimWrite source value) s =
      .next ((ownTrimWrite source value s).1.replied .trim (ownTrimWrite source value s).2) := by
  refine request_answered .trim _ s _ _ c ?_
  cases source with
  | none => rfl
  | some l => simp only [ownTrimWrite, setTrim_reserveTx]

theorem trimQuery_taken (asked : Option (Option Light)) (s : State) (c : s.canTake = true) :
    exec (.trimQuery asked) s = .next (s.replied .trim (ownTrimQuery asked s)) := by
  have same : ownTrimQuery asked s.reserveTx = ownTrimQuery asked s := by simp [ownTrimQuery]
  rw [← same]
  exact query_taken .trim (ownTrimQuery asked) s c

/-! ## FILM, PLAN and TRIM together -/

/-- Settles O28: each request's refusals in their order, and the record that it writes or lists. -/
theorem filmPlanAndTrimRequests : Obligations.FilmPlanAndTrimRequests := by
  refine ⟨fun id name code k recip asked s c => ⟨?_, ?_⟩,
    fun id offsets asked source value which s c => ⟨?_, ?_, ?_, ?_⟩,
    fun id s => ⟨fun ⟨low, high⟩ => film_stored low high s, fun ⟨low, high⟩ => plan_stored low high s, plan_zero s⟩⟩
  · rw [filmWrite_taken id name code k recip s c]
    unfold ownFilmWrite
    simp only [← inRange_iff, Bool.not_eq_true, Bool.not_eq_true', ← clampRecip_eq]
    split
    · rfl
    split
    · rfl
    split
    · rfl
    split
    · rfl
    rw [descent_eq]
    cases ((clampRecip recip).zip (clampRecip recip).tail).findIdx? fun p => p.2.threshold ≤ p.1.threshold with
    | some i =>
      have field : 5 + 2 * (0 + 1 + i) = 7 + 2 * i := by omega
      simp only [Option.map_some, field]
    | none =>
      simp only [Option.map_none, clampReport_cons, recipClamps_report_five, clampNat_eq_nearest (show 0 ≤ 383 by omega)]
      rfl
  · rw [filmQuery_taken asked s c]
    cases asked with
    | none => rfl
    | some n =>
      simp only [ownFilmQuery, ← inRange_iff]
      cases inRange 1 8 n
      · rfl
      · cases s.film n.toNat <;> rfl
  · rw [planWrite_taken id offsets s c]
    have clamped : offsets.map (clampInt (-36) 36) = offsets.map (nearest (-36) 36) :=
      List.map_congr_left fun v _ => clampInt_eq_nearest (by omega) v
    have lengths : (offsets.isEmpty || 7 < offsets.length) = true ↔ offsets.length = 0 ∨ 7 < offsets.length := by simp
    unfold ownPlanWrite
    simp only [← inRange_iff, Bool.not_eq_true, Bool.not_eq_true', beq_iff_eq, clamped, lengths]
    split
    · rfl
    split
    · rfl
    split
    · rfl
    rw [repeated_first, planClamps_report_two]
    cases (offsets.map (nearest (-36) 36)).zipIdx.find? fun p =>
      ((offsets.map (nearest (-36) 36)).take p.2).contains p.1 <;> rfl
  · rw [planQuery_taken asked s c]
    cases asked with
    | none =>
      rw [planQuery_all]
      exact congrArg
        (fun f => Host.Outcome.next (s.replied .plan (ok ([numF 0, .num 0] ++ (s.store.plans.toList.zipIdx 1).flatMap f))))
        (funext fun p => by cases p.1 <;> rfl)
    | some n =>
      simp only [ownPlanQuery]
      by_cases zero : n = 0
      · simp [zero, inRange, plan_zero]
      · by_cases range : 1 ≤ n ∧ n ≤ 7
        · have held := plan_stored (n := n.toNat) (by omega) (by omega) s
          have inside : inRange 0 7 n = true := (inRange_iff 0 7 n).mpr (by omega)
          rw [← held]
          simp only [zero, range, inside]
          cases s.plan n.toNat <;> rfl
        · have outside : inRange 0 7 n = false := by rw [← Bool.not_eq_true, inRange_iff]; omega
          simp [zero, range, outside]
  · rw [trimWrite_taken source value s c]
    have report : clampReport [(2, inRange (-36) 36 value)] = clampedAt 2 (-36) 36 value := by
      rw [clampReport_cons, clampReport_nil, List.append_nil]
    cases source with
    | none => rfl
    | some l =>
      simp only [ownTrimWrite, report, clampInt_eq_nearest (show (-36 : Int) ≤ 36 by omega)]
      cases l <;> rfl
  · rw [trimQuery_taken which s c]
    obtain _ | _ | l := which
    · rfl
    · rfl
    · cases l <;> rfl

/-! ## CTXQ and CALC (R81, R82) -/

theorem ctxq_taken (s : State) (c : s.canTake = true) : exec .ctxq s = .next (s.replied .ctxq (ownCtxq s)) := by
  have same : ownCtxq s.reserveTx = ownCtxq s := by simp [ownCtxq]
  rw [← same]
  exact query_taken .ctxq ownCtxq s c

theorem calcBase_reserveTx (rec : FilmRecord) (mode : Source) (value filter : Int) (s : State) :
    s.reserveTx.calcBase rec mode value filter = s.calcBase rec mode value filter := by simp [State.calcBase]

theorem calc_taken (film : Int) (mode : Option Source) (value filter plan : Int) (s : State) (c : s.canTake = true) :
    exec (.calc film mode value filter plan) s = .next (s.replied .calc (ownCalc film mode value filter plan s)) := by
  have same : ownCalc film mode value filter plan s.reserveTx = ownCalc film mode value filter plan s := by
    simp [ownCalc, calcBase_reserveTx]
  rw [← same]
  exact query_taken .calc (ownCalc film mode value filter plan) s c

/-- R70: a light value of 0 is taken as 1. -/
theorem lightTaken_eq (l : Nat) : lightTaken l = max 1 l := by
  unfold lightTaken
  cases l with
  | zero => rfl
  | succ n => simp

/-- R82: stages 1 to 3 of a CALC for a cell, in the given trim. -/
def litBase (k : Nat) (value filter trim : Int) : FillBase :=
  let l := (nearest 0 65535 value).toNat
  { t0 := (k : Int) - brightness (max 1 l) + nearest (-24) 48 filter + trim
    flags := { Flags.clear with meterLow := decide (l < 16) }
    light := some l }

theorem calcBase_copy (rec : FilmRecord) (value filter : Int) (s : State) :
    s.calcBase rec .copy value filter = litBase rec.k value filter s.store.copyTrim := by
  simp [State.calcBase, litBase, baseLog, lightTaken_eq, clampNat_eq_nearest, clampInt_eq_nearest, lightFlags, Flags.clear]

theorem calcBase_stage (rec : FilmRecord) (value filter : Int) (s : State) :
    s.calcBase rec .stage value filter = litBase rec.k value filter s.store.stageTrim := by
  simp [State.calcBase, litBase, baseLog, lightTaken_eq, clampNat_eq_nearest, clampInt_eq_nearest, lightFlags, Flags.clear]

theorem calcBase_manual (rec : FilmRecord) (value filter : Int) (s : State) :
    s.calcBase rec .manual value filter = { t0 := nearest 0 191 value, flags := manualFlags, light := none } := by
  simp [State.calcBase, clampInt_eq_nearest]

/-- R82: the filter of a MANUAL item is not judged. -/
theorem calcClamps_report (mode : Source) (value filter : Int) :
    clampReport (calcClamps mode value filter) =
      if mode = .manual then clampedAt 3 0 191 value else clampedAt 3 0 65535 value ++ clampedAt 4 (-24) 48 filter := by
  cases mode <;> simp [calcClamps, clampReport_cons]

/-- Settles O31: the queries read the records that R81 and R82 name, and the reservation hides none of them. -/
theorem contextQueries : Obligations.ContextQueries := by
  intro film mode value filter plan s c
  refine ⟨ctxq_taken s c, ?_⟩
  rw [calc_taken film mode value filter plan s c]
  unfold ownCalc
  simp only [← inRange_iff]
  cases inRange 1 8 film
  · rfl
  cases s.film film.toNat with
  | none => rfl
  | some rec =>
    cases mode with
    | none => rfl
    | some m =>
      cases inRange 0 7 plan
      · rfl
      cases s.plan plan.toNat with
      | none => rfl
      | some offsets =>
        simp only [calcClamps_report]
        cases m with
        | copy =>
          simp only [calcBase_copy, ne_eq, reduceCtorEq, not_false_eq_true, true_and]
          rfl
        | stage =>
          simp only [calcBase_stage, ne_eq, reduceCtorEq, not_false_eq_true, true_and]
          rfl
        | manual => rw [calcBase_manual]; rfl

/-! ## The Charge Unit's look leaves the cycle alone (R157 to R160) -/

theorem finalCheck_cycle (n : Nat) (s : State) : (s.finalCheck n).cycle = s.cycle := by
  unfold State.finalCheck
  split
  · split
    · split
      · split
        · simp [State.writeMinimum, State.raiseSettle]
        · simp
      · simp
    · rfl
  · rfl

theorem settleItem_cycle (o : Order) (it : Item) (s : State) : (s.settleItem o it).cycle = s.cycle := by
  simp only [State.settleItem, finalCheck_cycle, State.settleRecord, State.raiseSettle]
  split <;> simp

@[simp] theorem lookItem_cycle (o i : Nat) (s : State) : (s.lookItem o i).cycle = s.cycle := by
  unfold State.lookItem
  split
  · rfl
  · split
    · rfl
    · split
      · split
        · exact settleItem_cycle _ _ s
        · simp
      · rfl

@[simp] theorem cancelPendingItem_cycle (o i : Nat) (s : State) : (s.cancelPendingItem o i).cycle = s.cycle := by
  simp [State.cancelPendingItem, State.setItemEnd]

theorem cancelPendings_cycle (o : Order) (s : State) : (s.cancelPendings o).cycle = s.cycle := by
  unfold State.cancelPendings
  induction o.items.filter (fun i => i.state == .pending) generalizing s with
  | nil => rfl
  | cons i rest ih => simp [ih]

/-! ## CNCL (R99) -/

theorem cancelPendings_stays (o : Order) (s : State) : Stays s (s.cancelPendings o) :=
  foldl_stays _ (fun _ _ => State.cancelPendingItem_stays _ _ _) _ s

theorem cancelActive_stays (o : Nat) (it : Item) (s : State) : Stays s (s.cancelActive o it).1 := by
  have ended := State.endActive_stays o it true s
  unfold State.cancelActive
  cases s.cycle.state with
  | exposing => exact State.updateItem_stays _ _ _ s
  | winding => exact State.updateItem_stays _ _ _ s
  | metering =>
    exact ((State.withdrawMetering_stays s).trans (State.endActive_stays _ _ _ _)).trans (State.select_stays _)
  | place => exact ended.trans (State.select_stays _)
  | warmup => exact ended.trans (State.select_stays _)
  | stopped => exact ended
  | waiting => exact ended
  | halted => exact ended.trans (State.enterStopped_stays _)

theorem ownCnclOrder_stays (order : Int) (s : State) : Stays s (ownCnclOrder order s).1 := by
  unfold ownCnclOrder
  split
  · exact Stays.refl s
  · split
    · exact Stays.refl s
    · rename_i o _
      split
      · exact State.removeOrder_stays _ s
      · split
        · exact Stays.refl s
        · dsimp only
          split
          · exact cancelPendings_stays o s
          · exact (cancelPendings_stays o s).trans (cancelActive_stays _ _ _)

theorem ownCnclItem_stays (order item : Int) (s : State) : Stays s (ownCnclItem order item s).1 := by
  unfold ownCnclItem
  split
  · exact Stays.refl s
  · split
    · exact Stays.refl s
    · split
      · exact Stays.refl s
      · split
        · exact Stays.refl s
        · split
          · exact State.cancelPendingItem_stays _ _ s
          · exact cancelActive_stays _ _ s
          · exact Stays.refl s
          · exact Stays.refl s
          · exact Stays.refl s

theorem cnclOrder_taken (order : Int) (s : State) (c : s.canTake = true) :
    exec (.cnclOrder order) s =
      .next ((ownCnclOrder order s.reserveTx).1.replied .cncl (ownCnclOrder order s.reserveTx).2) :=
  request_stays .cncl (ownCnclOrder order) s c (ownCnclOrder_stays order _)

theorem cnclItem_taken (order item : Int) (s : State) (c : s.canTake = true) :
    exec (.cnclItem order item) s =
      .next ((ownCnclItem order item s.reserveTx).1.replied .cncl (ownCnclItem order item s.reserveTx).2) :=
  request_stays .cncl (ownCnclItem order item) s c (ownCnclItem_stays order item _)

/-- The order of a number in range, which a reservation does not hide. -/
theorem orderAt_reserveTx {n : Int} (h : 1 ≤ n) (s : State) : s.reserveTx.orderAt n = s.order n.toNat := by
  simp [State.orderAt, State.order, show ¬ n < 0 by omega]

theorem removeOrder_reserveTx (n : Nat) (s : State) : s.reserveTx.removeOrder n = (s.removeOrder n).reserveTx :=
  reserveTx_comm (State.removeOrder n) (fun _ _ => rfl) s

/-- R99: the cancellation of the ACTIVE item waits in EXPOSING and in WINDING alone. -/
def cancelWaits (c : CycleState) : Bool := c = .exposing ∨ c = .winding

/-- R99: what becomes of the state when the ACTIVE item is cancelled in a state of the cycle. -/
def cancelledIn (c : CycleState) (o : Nat) (it : Item) (t : State) : State :=
  match c with
  | .exposing | .winding => t.updateItem o it.number fun i => { i with cancelPending := true }
  | .metering => (t.withdrawMetering.endActive o it true).select
  | .place | .warmup => (t.endActive o it true).select
  | .stopped | .waiting _ => t.endActive o it true
  | .halted _ _ => (t.endActive o it true).enterStopped

theorem cancelActive_eq (o : Nat) (it : Item) {t : State} {c : CycleState} (h : t.cycle.state = c) :
    t.cancelActive o it = (cancelledIn c o it t, cancelWaits c) := by
  unfold State.cancelActive
  rw [h]
  cases c <;> rfl

/-! ## The end of an item (R96, R97) -/

/-- R96: the order's state follows from the items that are left. -/
theorem afterItemEnd_eq (q : Order) : q.afterItemEnd =
    { q with
      state :=
        if q.items.any fun i => i.state == .active then q.state
        else if q.items.any fun i => i.state == .pending then (if q.state = .active then .waiting else q.state)
        else if q.state = .building then .building
        else .done } := by
  unfold Order.afterItemEnd
  simp only [beq_iff_eq]
  by_cases active : (q.items.any fun i => i.state == .active) = true
  · rw [if_pos active, if_pos active]
  rw [if_neg active, if_neg active]
  by_cases pending : (q.items.any fun i => i.state == .pending) = true
  · rw [if_pos pending, if_pos pending]
    split <;> rfl
  rw [if_neg pending, if_neg pending]
  split
  next building => rw [← building]
  next => rfl

/-- R96, R97: an order whose item `i` takes the state of its end. -/
def endedOrder (i : Nat) (last : ItemState) (q : Order) : Order :=
  let items := q.items.map fun it => if it.number = i then { it with state := last } else it
  { q with
    items := items
    state :=
      if items.any fun it => it.state == .active then q.state
      else if items.any fun it => it.state == .pending then (if q.state = .active then .waiting else q.state)
      else if q.state = .building then .building
      else .done }

theorem setItemEnd_eq (o i : Nat) (cancelled : Bool) (s : State) :
    s.setItemEnd o i cancelled = s.updateOrder o (endedOrder i (if cancelled then .cancelled else .done)) := by
  unfold State.setItemEnd
  congr 1
  funext q
  rw [afterItemEnd_eq]
  simp only [Order.updateItem, endedOrder, beq_iff_eq]

/-- R77, R79: the step of each context of a discarded queue returns to PENDING. -/
theorem discardQueue_eq (s : State) : s.discardQueue =
    s.contexts.foldl (fun t c => t.updateItem c.ref.order c.ref.item fun i =>
      if i.currentSet = some c.ref.set then { i with steps := i.steps.map fun l => l.set (c.ref.step - 1) .pending } else i)
      { s with contexts := [] } := by
  unfold State.discardQueue
  congr 1
  funext t c
  unfold State.setStep
  congr 1
  funext i
  simp only [Item.setStep, beq_iff_eq]

/-- Settles O36: a CNCL cancels the PENDING items first, which leaves the cycle as it stands, and then treats the ACTIVE one. -/
theorem cancelEndsItems : Obligations.CancelEndsItems := by
  refine ⟨fun order item s c => ?_, fun o it cancelled s => ?_, fun o i s => ?_⟩
  · intro active waits reply
    have treated : ∀ o it (t : State), t.cycle.state = s.cycle.state → t.cancelActive o it = (active o it t, waits) := by
      intro o it t h
      rw [cancelActive_eq o it h]
      simp only [active, waits]
      cases s.cycle.state <;> rfl
    have written : ∀ o n w, cancelReply o n w = reply o n w := fun _ _ _ => rfl
    clear_value active waits reply
    constructor
    · rw [cnclOrder_taken order s c]
      unfold ownCnclOrder orderRange
      simp only [← inRange_iff]
      cases range : inRange 1 65535 order
      · simp [State.replied_reserve]
      rw [orderAt_reserveTx ((inRange_iff _ _ _).mp range).1]
      cases s.order order.toNat with
      | none => simp [State.replied_reserve]
      | some o =>
        by_cases building : o.state = .building
        · simp only [building, removeOrder_reserveTx, beq_self_eq_true, Bool.not_true, Bool.false_eq_true, not_true_eq_false,
            if_true, if_false, State.replied_reserve, written]
          rfl
        · cases unfinished : o.items.any fun i => i.state == .pending || i.state == .active
          · simp [building, unfinished, State.replied_reserve]
          · have cycle : (s.reserveTx.cancelPendings o).cycle.state = s.cycle.state := by
              rw [cancelPendings_cycle, State.reserveTx_cycle]
            simp only [building, unfinished, written, treated _ _ _ cycle, Order.activeItem, beq_iff_eq]
            cases o.items.find? fun i => i.state == .active <;> rfl
    · rw [cnclItem_taken order item s c]
      have range : (!inRange 1 65535 order || !inRange 1 24 item) = true ↔
          ¬(1 ≤ order ∧ order ≤ 65535 ∧ 1 ≤ item ∧ item ≤ 24) := by
        simp only [Bool.or_eq_true, Bool.not_eq_true', ← Bool.not_eq_true, inRange_iff]
        omega
      have cycle : s.reserveTx.cycle.state = s.cycle.state := by rw [State.reserveTx_cycle]
      unfold ownCnclItem orderRange
      simp only [range]
      by_cases valid : 1 ≤ order ∧ order ≤ 65535 ∧ 1 ≤ item ∧ item ≤ 24
      · rw [orderAt_reserveTx valid.1]
        simp only [valid, and_self, not_true_eq_false, if_false]
        cases s.order order.toNat with
        | none => simp [State.replied_reserve]
        | some o =>
          simp only [Order.item]
          cases o.items.find? fun i => i.number == item.toNat with
          | none => simp [State.replied_reserve]
          | some it =>
            by_cases building : o.state = .building
            · simp [building, State.replied_reserve]
            · cases ended : it.state <;>
                simp [building, ended, written, treated _ _ _ cycle, State.replied_reserve]
      · simp [valid, State.replied_reserve]
  · simp only [State.endActive, setItemEnd_eq, discardQueue_eq]
    rfl
  · simp only [State.cancelPendingItem, setItemEnd_eq, State.updateOrder, Book.update, beq_iff_eq]
    rfl

end Sys2Proof.ExposureLaws

/-! PROOFS. The statements on chapter 5, Orders and the stand cycle, and on the accounts of chapter 8: the requests of the Order
Book and of the Stand Cycle Controller, and ACCT and ZERO. First what these proofs read of a reserved transmitter. -/

namespace Sys2Proof.OrderLaws

open Sys2Proof.Machine Sys2Proof.ExposureLaws

/-! ## What a reservation of the transmitter leaves -/

@[simp] theorem order_reserveTx (n : Nat) (s : State) : s.reserveTx.order n = s.order n := by simp [State.order]

@[simp] theorem account_reserveTx (n : Nat) (s : State) : s.reserveTx.account n = s.account n := by simp [State.account]

@[simp] theorem active_reserveTx (s : State) : s.reserveTx.active = s.active := by simp [State.active]

@[simp] theorem openRoll_reserveTx (s : State) : s.reserveTx.openRoll = s.openRoll := by simp [State.openRoll]

@[simp] theorem gateFrame_reserveTx (s : State) : s.reserveTx.gateFrame = s.gateFrame := by
  simp [State.gateFrame, State.lastFrame, State.frameAt]

@[simp] theorem poolFull_reserveTx (s : State) : s.reserveTx.poolFull = s.poolFull := by simp [State.poolFull]

@[simp] theorem orderAt_reserved (n : Int) (s : State) : s.reserveTx.orderAt n = s.orderAt n := by simp [State.orderAt]

theorem orderAt_of_nonneg {n : Int} (h : 0 ≤ n) (s : State) : s.orderAt n = s.order n.toNat := by
  simp [State.orderAt, show ¬ n < 0 by omega]

theorem orderAt_of_neg {n : Int} (h : n < 0) (s : State) : s.orderAt n = none := by simp [State.orderAt, h]

theorem addOrder_reserveTx (o : Order) (s : State) : s.reserveTx.addOrder o = (s.addOrder o).reserveTx :=
  reserveTx_comm (State.addOrder o) (fun _ _ => rfl) s

theorem updateOrder_reserveTx (n : Nat) (f : Order → Order) (s : State) :
    s.reserveTx.updateOrder n f = (s.updateOrder n f).reserveTx :=
  reserveTx_comm (State.updateOrder n f) (fun _ _ => rfl) s

/-! ## Looking up and rewriting orders and items (R92, R97) -/

theorem updateOrder_eq (n : Nat) (f : Order → Order) (s : State) : s.updateOrder n f =
    { s with
      store :=
        { s.store with
          book :=
            { posted := s.store.book.posted.map fun q => if q.number = n then f q else q
              building := s.store.book.building.map fun q => if q.number = n then f q else q } } } := by
  simp only [State.updateOrder, Book.update, beq_iff_eq]
  rfl

theorem updateItem_eq (n : Nat) (f : Item → Item) (o : Order) :
    o.updateItem n f = { o with items := o.items.map fun i => if i.number = n then f i else i } := by
  simp only [Order.updateItem, beq_iff_eq]

/-! ## ORDR (R91, R93) -/

theorem orderRange_iff (n : Int) : orderRange n = true ↔ 1 ≤ n ∧ n ≤ 65535 := inRange_iff 1 65535 n

theorem orderRange_nonneg {n : Int} (h : orderRange n = true) : 0 ≤ n := by
  have := (orderRange_iff n).mp h
  omega

theorem poolFull_iff (s : State) : s.poolFull = true ↔ 256 ≤ s.store.book.itemCount := decide_eq_true_iff

theorem ordrCreate_taken (order account : Int) (cls : Option OrderClass) (s : State) (c : s.canTake = true) :
    exec (.ordrCreate order account cls) s =
      .next ((ownOrdrCreate order account cls s).1.replied .ordr (ownOrdrCreate order account cls s).2) := by
  refine request_answered .ordr _ s _ _ c ?_
  simp only [ownOrdrCreate, orderAt_reserved, account_reserveTx, poolFull_reserveTx, State.reserveTx_store, addOrder_reserveTx]
  split
  · rfl
  split
  · rfl
  cases cls with
  | none => rfl
  | some k =>
    dsimp only
    split
    · rfl
    split
    · rfl
    split <;> rfl

theorem ordrQuery_taken (asked : Option Int) (s : State) (c : s.canTake = true) :
    exec (.ordrQuery asked) s = .next (s.replied .ordr (ownOrdrQuery asked s)) := by
  have same : ownOrdrQuery asked s.reserveTx = ownOrdrQuery asked s := by simp [ownOrdrQuery]
  rw [← same]
  exact query_taken .ordr (ownOrdrQuery asked) s c

/-! ## ITEM (R92, R94) -/

theorem itemAdd_taken (order : Int) (catalogue title credit : Text) (mode : Option Source) (value plan copies : Int)
    (lamp : Option (Option Light)) (s : State) (c : s.canTake = true) :
    exec (.itemAdd order catalogue title credit mode value plan copies lamp) s =
      .next ((ownItemAdd order catalogue title credit mode value plan copies lamp s).1.replied .item
        (ownItemAdd order catalogue title credit mode value plan copies lamp s).2) := by
  have checked : ∀ o, s.reserveTx.checkItem o catalogue title credit mode plan copies lamp =
      s.checkItem o catalogue title credit mode plan copies lamp := fun o => by simp [State.checkItem]
  refine request_answered .item _ s _ _ c ?_
  simp only [ownItemAdd, orderAt_reserved, checked, updateOrder_reserveTx]
  split
  · rfl
  split
  · rfl
  next o found =>
    cases s.checkItem o catalogue title credit mode plan copies lamp <;> rfl

theorem itemQuery_taken (order item : Int) (s : State) (c : s.canTake = true) :
    exec (.itemQuery order item) s = .next (s.replied .item (ownItemQuery order item s)) := by
  have same : ownItemQuery order item s.reserveTx = ownItemQuery order item s := by simp [ownItemQuery]
  rw [← same]
  exact query_taken .item (ownItemQuery order item) s c

/-- R94: the value that a new item of a mode stores. -/
def itemValue (m : Source) (value : Int) : Int :=
  nearest (if m = .manual then 0 else -24) (if m = .manual then 191 else 48) value

theorem itemMode_eq (m : Source) (value : Int) (lamp : Option (Option Light)) : itemMode m value lamp.join =
    match m with
    | .copy => .copy (itemValue m value)
    | .stage => .stage (itemValue m value)
    | .manual => .manual (itemValue m value).toNat (match lamp with
      | some (some l) => l
      | _ => .copy) := by
  cases m with
  | copy => simp [itemMode, itemValue, clampInt_eq_nearest]
  | stage => simp [itemMode, itemValue, clampInt_eq_nearest]
  | manual => obtain _ | _ | l := lamp <;> simp [itemMode, itemValue, clampNat_eq_nearest]

theorem itemMode_value (m : Source) (value : Int) (lamp : Option (Option Light)) :
    (itemMode m value lamp.join).value = itemValue m value := by
  rw [itemMode_eq]
  cases m with
  | copy => rfl
  | stage => rfl
  | manual =>
    have low : 0 ≤ nearest 0 191 value := by unfold nearest; omega
    exact Int.toNat_of_nonneg low

theorem itemValueOk_report (m : Source) (value : Int) : clampReport [(6, itemValueOk m value)] =
    clampedAt 6 (if m = .manual then 0 else -24) (if m = .manual then 191 else 48) value := by
  cases m <;> simp [itemValueOk, clampReport_cons]

/-- R94: the refusals of an item, in their order, and the mode of one that is taken. -/
theorem checkItem_eq (o : Order) (catalogue title credit : Text) (mode : Option Source) (plan copies : Int)
    (lamp : Option (Option Light)) (s : State) :
    s.checkItem o catalogue title credit mode plan copies lamp =
      if o.state ≠ .building then .error (refuseAt .state 1)
      else if 20 < catalogue.length then .error (refuseAt .range 2)
      else if 60 < title.length then .error (refuseAt .range 3)
      else if 40 < credit.length then .error (refuseAt .range 4)
      else
        match mode with
        | none => .error (refuseAt .range 5)
        | some m =>
          if ¬(0 ≤ plan ∧ plan ≤ 7) then .error (refuseAt .range 7)
          else if s.plan plan.toNat = none then .error (refuseAt .none 7)
          else if ¬(1 ≤ copies ∧ copies ≤ 4) then .error (refuseAt .range 8)
          else if m = .manual ∧ lamp = some none then .error (refuseAt .range 9)
          else if 24 ≤ o.items.length ∨ 256 ≤ s.store.book.itemCount then .error (refuse .full)
          else .ok m := by
  unfold State.checkItem
  simp only [bne_iff_ne]
  split
  · rfl
  split
  · rfl
  split
  · rfl
  split
  · rfl
  cases mode with
  | none => rfl
  | some m =>
    simp only [← inRange_iff, Bool.not_eq_true, Bool.not_eq_true', Option.isNone_iff_eq_none, Bool.and_eq_true, beq_iff_eq,
      Bool.or_eq_true, decide_eq_true_eq, poolFull_iff]
    rfl

/-- R94: the plan and the copies of an item that is taken are in range. -/
theorem checkItem_ok {o : Order} {catalogue title credit : Text} {mode : Option Source} {plan copies : Int}
    {lamp : Option (Option Light)} {s : State} {m : Source}
    (h : s.checkItem o catalogue title credit mode plan copies lamp = .ok m) : 0 ≤ plan ∧ 1 ≤ copies := by
  rw [checkItem_eq] at h
  split at h
  · cases h
  split at h
  · cases h
  split at h
  · cases h
  split at h
  · cases h
  cases mode with
  | none => cases h
  | some k =>
    dsimp only at h
    split at h
    · cases h
    next inPlan =>
      split at h
      · cases h
      split at h
      · cases h
      next inCopies => omega

/-- R94: an ITEM of an order that is found, with the checks' result: the refusal, or the PENDING item added to its order. -/
def itemAnswered (o : Order) (catalogue title credit : Text) (value plan copies : Int) (lamp : Option (Option Light))
    (s : State) : Except Answer Source → State
  | .error a => s.replied .item a
  | .ok m =>
    let it := newItem (o.items.length + 1) catalogue title credit (itemMode m value lamp.join) plan.toNat copies.toNat
    (s.updateOrder o.number fun q => { q with items := q.items ++ [it] }).replied .item
      (ok [.dotted [o.number, it.number], .word (sourceWord m), .num (itemValue m value), .num plan, .num copies]
        (clampedAt 6 (if m = .manual then 0 else -24) (if m = .manual then 191 else 48) value))

theorem itemAdd_found {order : Int} {o : Order} {s : State} (range : orderRange order = true)
    (found : s.order order.toNat = some o) (catalogue title credit : Text) (mode : Option Source) (value plan copies : Int)
    (lamp : Option (Option Light)) (c : s.canTake = true) :
    exec (.itemAdd order catalogue title credit mode value plan copies lamp) s =
      .next (itemAnswered o catalogue title credit value plan copies lamp s
        (s.checkItem o catalogue title credit mode plan copies lamp)) := by
  rw [itemAdd_taken order catalogue title credit mode value plan copies lamp s c]
  rw [ownItemAdd, range, orderAt_of_nonneg (orderRange_nonneg range), found]
  cases checked : s.checkItem o catalogue title credit mode plan copies lamp with
  | error a => simp [checked, itemAnswered]
  | ok m =>
    obtain ⟨planLow, copiesLow⟩ := checkItem_ok checked
    have planField : numF plan.toNat = .num plan := congrArg RField.num (Int.toNat_of_nonneg planLow)
    have copiesField : numF copies.toNat = .num copies := congrArg RField.num (Int.toNat_of_nonneg (by omega))
    simp [checked, itemAnswered, newItem, itemMode_value, itemValueOk_report, planField, copiesField]

theorem orderFields_eq (b : Book) (o : Order) : orderFields b o =
    [numF o.number, numF o.account, .word (classWord o.cls), .word o.state.word,
      match o.state with
      | .held c => .word c.word
      | _ => .empty,
      optF numF ((b.posted.findIdx? fun q => q.number == o.number).map (· + 1)), optF numF o.minimum,
      numF o.running, numF o.items.length] ++
    o.items.flatMap fun i => [numF i.number, .word i.state.word] := by
  unfold orderFields
  cases o.state <;> rfl

/-- R92, R94: the mode, the filter adjustment, the manual log and the lamp of an item. -/
theorem modeFields_eq (m : ItemMode) : [.word (sourceWord m.source)] ++ m.fields =
    match m with
    | .copy f => [.word ['C', 'O', 'P', 'Y'], .num f, .empty, .empty]
    | .stage f => [.word ['S', 'T', 'A', 'G', 'E'], .num f, .empty, .empty]
    | .manual l lamp => [.word ['M', 'A', 'N', 'U', 'A', 'L'], .empty, numF l, .word (lightWord lamp)] := by
  cases m <;> rfl

/-- R92, R94: the stored light of an item. -/
theorem storedFields_eq (x : Option StoredLight) :
    [optF (fun x => numF (StoredLight.light x)) x, optF (fun x => yesNo (StoredLight.high x)) x] =
      match x with
      | some x => [numF x.light, .word (if x.high then ['Y'] else ['N'])]
      | none => [.empty, .empty] := by
  cases x <;> rfl

/-- R94: the fields of an item, with those of its mode and of its stored light in one piece each. -/
theorem itemFields_eq (it : Item) : it.fields =
    [.text it.catalogue, .text it.title, .text it.credit] ++ ([.word (sourceWord it.mode.source)] ++ it.mode.fields) ++
    [numF it.plan, numF it.copies, .word it.state.word, .word (if it.cancelPending then ['Y'] else ['N'])] ++
    (match it.captured with
      | some l => l.map RField.num
      | none => [.empty]) ++
    (ratesFields it.rates ++ [numF it.estimate]) ++
    [optF (fun x => numF (StoredLight.light x)) it.stored, optF (fun x => yesNo (StoredLight.high x)) it.stored] ++
    [optF numF it.currentSet, optF (fun l => .word (l.map StepStatus.letter)) it.steps, numF it.setsDone, numF it.kept,
      numF it.rejected, numF it.spoiled, numF it.labels] := by
  simp only [Item.fields, stepsField, yesNo, List.append_assoc, List.cons_append, List.nil_append] <;> rfl

/-- Settles O34: a form's refusals come in the order in which its owner checks, and the rest is what the Order Book writes or
lists. -/
theorem orderAndItemRequests : Obligations.OrderAndItemRequests := by
  refine ⟨fun order account cls asked s c => ⟨?_, ?_⟩,
    fun order catalogue title credit mode value plan copies lamp item s c => ⟨?_, ?_⟩, fun o i f g s => ?_⟩
  · rw [ordrCreate_taken order account cls s c]
    unfold ownOrdrCreate
    simp only [← orderRange_iff]
    simp only [← inRange_iff]
    cases range : orderRange order
    · rfl
    cases inRange 1 9999 account
    · rfl
    cases cls with
    | none => rfl
    | some k =>
      rw [orderAt_of_nonneg (orderRange_nonneg range)]
      cases s.order order.toNat with
      | some o => rfl
      | none =>
        cases s.account account.toNat with
        | none => rfl
        | some a =>
          have room : (decide (Config.maxOrders ≤ s.store.book.orders.length) || s.poolFull) = true ↔
              32 ≤ s.store.book.orders.length ∨ 256 ≤ s.store.book.itemCount := by
            simp only [Bool.or_eq_true, decide_eq_true_eq, poolFull_iff]
            rfl
          simp only [room]
          by_cases full : 32 ≤ s.store.book.orders.length ∨ 256 ≤ s.store.book.itemCount
          · simp [full]
          · simp [full]; rfl
  · rw [ordrQuery_taken asked s c]
    cases asked with
    | none => rfl
    | some n =>
      unfold ownOrdrQuery
      simp only [← orderRange_iff]
      cases range : orderRange n
      · rfl
      rw [orderAt_of_nonneg (orderRange_nonneg range)]
      cases s.order n.toNat with
      | none => rfl
      | some o => exact congrArg (fun l => Host.Outcome.next (s.replied .ordr (ok l))) (orderFields_eq s.store.book o)
  · simp only [← orderRange_iff]
    cases range : orderRange order with
    | false =>
      rw [itemAdd_taken order catalogue title credit mode value plan copies lamp s c, ownItemAdd, range]
      rfl
    | true =>
      have low := orderRange_nonneg range
      cases found : s.order order.toNat with
      | none =>
        rw [itemAdd_taken order catalogue title credit mode value plan copies lamp s c, ownItemAdd, range,
          orderAt_of_nonneg low, found]
        rfl
      | some o =>
        rw [itemAdd_found range found catalogue title credit mode value plan copies lamp c, checkItem_eq]
        cases mode with
        | none => simp only [apply_ite (itemAnswered o catalogue title credit value plan copies lamp s)]; rfl
        | some m =>
          simp only [apply_ite (itemAnswered o catalogue title credit value plan copies lamp s)]
          simp only [itemAnswered, itemMode_eq]
          rfl
  · rw [itemQuery_taken order item s c]
    unfold ownItemQuery
    simp only [← orderRange_iff]
    simp only [← inRange_iff]
    cases range : orderRange order
    · rfl
    rw [orderAt_of_nonneg (orderRange_nonneg range)]
    cases s.order order.toNat with
    | none => rfl
    | some o =>
      cases inRange 1 24 item
      · rfl
      simp only [Order.item]
      cases o.items.find? fun i => i.number == item.toNat with
      | none => rfl
      | some it =>
        simp only [itemFields_eq, modeFields_eq, storedFields_eq]
        cases it.rates <;> rfl
  · refine ⟨rfl, rfl, rfl, updateOrder_eq o f s, ?_⟩
    simp only [State.updateItem, updateOrder_eq, updateItem_eq]

/-! ## POST, HOLD and FREE (R95, R98) -/

theorem setOrderState_reserveTx (n : Nat) (st : OrderState) (s : State) :
    s.reserveTx.setOrderState n st = (s.setOrderState n st).reserveTx :=
  updateOrder_reserveTx n (fun q => { q with state := st }) s

/-- A selection waits for the state of the cycle that the request found. -/
theorem selectIfWaiting_eq {s t : State} (h : t.cycle = s.cycle) :
    t.selectIfWaiting = if s.cycle.isWaiting then t.select else t := by
  rw [State.selectIfWaiting, h]

theorem ownPost_stays (order : Int) (s : State) : Stays s (ownPost order s).1 := by
  unfold ownPost
  split
  · exact Stays.refl s
  split
  · exact Stays.refl s
  split
  · exact Stays.refl s
  · exact (State.setBook_stays _ s).trans (State.selectIfWaiting_stays _)

theorem ownFree_stays (order : Int) (s : State) : Stays s (ownFree order s).1 := by
  unfold ownFree
  split
  · exact Stays.refl s
  next o found =>
    cases o.state with
    | held cause => exact (State.updateOrder_stays _ _ s).trans (State.selectIfWaiting_stays _)
    | building => exact Stays.refl s
    | waiting => exact Stays.refl s
    | active => exact Stays.refl s
    | done => exact Stays.refl s

theorem post_taken (order : Int) (s : State) (c : s.canTake = true) :
    exec (.post order) s = .next ((ownPost order s.reserveTx).1.replied .post (ownPost order s.reserveTx).2) :=
  request_stays .post (ownPost order) s c (ownPost_stays order _)

theorem free_taken (order : Int) (s : State) (c : s.canTake = true) :
    exec (.free order) s = .next ((ownFree order s.reserveTx).1.replied .free (ownFree order s.reserveTx).2) :=
  request_stays .free (ownFree order) s c (ownFree_stays order _)

theorem hold_taken (order : Int) (s : State) (c : s.canTake = true) :
    exec (.hold order) s = .next ((ownHold order s).1.replied .hold (ownHold order s).2) := by
  refine request_answered .hold _ s _ _ c ?_
  simp only [ownHold, orderAt_reserved, setOrderState_reserveTx]
  split
  · rfl
  next o found => cases o.state <;> rfl

/-- Settles O35: the refusals stand in their order, and the selection reads the cycle that the request found. -/
theorem postHoldAndFree : Obligations.PostHoldAndFree := by
  intro order s c set select
  refine ⟨?_, fun low => ⟨?_, ?_⟩, fun neg => ⟨?_, ?_⟩⟩
  · rw [post_taken order s c, ownPost]
    simp only [← orderRange_iff]
    cases range : orderRange order
    · simp [State.replied_reserve]
    rw [orderAt_reserved, orderAt_of_nonneg (orderRange_nonneg range)]
    cases s.order order.toNat with
    | none => simp [State.replied_reserve]
    | some o =>
      have refused : (o.state != .building || o.items.isEmpty) = true ↔ o.state ≠ .building ∨ o.items = [] := by simp
      simp only [refused]
      by_cases bad : o.state ≠ .building ∨ o.items = []
      · simp [bad, State.replied_reserve]
      · rw [selectIfWaiting_eq (s := s) (by simp [State.postOrder])]
        simp only [bad, if_false, State.postOrder, State.setBook, State.reserveTx_store]
        rfl
  · rw [hold_taken order s c, ownHold, orderAt_of_nonneg low]
    cases s.order order.toNat with
    | none => rfl
    | some o =>
      dsimp only
      cases o.state <;> rfl
  · rw [free_taken order s c, ownFree, orderAt_reserved, orderAt_of_nonneg low]
    cases s.order order.toNat with
    | none => exact congrArg _ (State.replied_reserve _ _ s)
    | some o =>
      dsimp only
      rw [selectIfWaiting_eq (s := s) (by simp [State.setOrderState])]
      cases o.state with
      | held cause => rfl
      | building => exact congrArg _ (State.replied_reserve _ _ s)
      | waiting => exact congrArg _ (State.replied_reserve _ _ s)
      | active => exact congrArg _ (State.replied_reserve _ _ s)
      | done => exact congrArg _ (State.replied_reserve _ _ s)
  · rw [hold_taken order s c, ownHold, orderAt_of_neg neg]
  · rw [free_taken order s c, ownFree, orderAt_reserved, orderAt_of_neg neg, State.replied_reserve]

/-! ## LITE, CYCL and PAUS (R101, R102, R112) -/

theorem lite_reserveTx (l : Light) (on : Bool) (s : State) : s.reserveTx.lite l on = (s.lite l on).reserveTx :=
  reserveTx_comm (State.lite l on) (fun _ _ => rfl) s

theorem enterStopped_reserveTx (s : State) : s.reserveTx.enterStopped = s.enterStopped.reserveTx :=
  reserveTx_comm State.enterStopped (fun _ _ => rfl) s

theorem setPause_reserveTx (s : State) : s.reserveTx.setPause = s.setPause.reserveTx :=
  reserveTx_comm State.setPause (fun _ _ => rfl) s

theorem liteSet_taken (lamp : Option Light) (state : Option Bool) (s : State) (c : s.canTake = true) :
    exec (.liteSet lamp state) s = .next ((ownLiteSet lamp state s).1.replied .lite (ownLiteSet lamp state s).2) := by
  refine request_answered .lite _ s _ _ c ?_
  cases lamp with
  | none => rfl
  | some l =>
    cases state with
    | none => rfl
    | some on =>
      simp only [ownLiteSet, State.reserveTx_cycle, lite_reserveTx]
      split <;> rfl

theorem liteQuery_taken (s : State) (c : s.canTake = true) :
    exec .liteQuery s = .next (s.replied .lite (ownLiteQuery s)) := by
  have same : ownLiteQuery s.reserveTx = ownLiteQuery s := by simp [ownLiteQuery]
  rw [← same]
  exact query_taken .lite ownLiteQuery s c

theorem cycl_taken (s : State) (c : s.canTake = true) : exec .cycl s = .next (s.replied .cycl (ownCycl s)) := by
  have same : ownCycl s.reserveTx = ownCycl s := by simp [ownCycl]
  rw [← same]
  exact query_taken .cycl ownCycl s c

theorem paus_taken (s : State) (c : s.canTake = true) :
    exec .paus s = .next ((ownPaus s).1.replied .paus (ownPaus s).2) := by
  refine request_answered .paus _ s _ _ c ?_
  simp only [ownPaus, State.reserveTx_cycle, enterStopped_reserveTx, setPause_reserveTx]
  cases s.cycle.state <;> rfl

/-- R102: LITE is refused in the states in which the cycle itself switches a lamp. -/
theorem litable_iff (c : CycleState) :
    c.litable = true ↔ ¬(c = .warmup ∨ c = .metering ∨ c = .exposing ∨ c = .winding) := by
  cases c <;> simp [CycleState.litable]

/-- Settles O39: LITE and PAUS by the state of the cycle, and the queries field by field. -/
theorem lampsQueriesAndPause : Obligations.LampsQueriesAndPause := by
  intro lamp state s c lampFields switched stopped
  refine ⟨?_, liteQuery_taken s c, ?_, ?_⟩
  · rw [liteSet_taken lamp state s c]
    cases lamp with
    | none => rfl
    | some l =>
      cases state with
      | none => rfl
      | some on =>
        have litable := litable_iff s.cycle.state
        by_cases busy : s.cycle.state = .warmup ∨ s.cycle.state = .metering ∨ s.cycle.state = .exposing ∨
            s.cycle.state = .winding
        · simp [ownLiteSet, busy, litable]
        · simp only [ownLiteSet, litable.mpr busy, busy, if_true, if_false]
          cases l <;> rfl
  · rw [cycl_taken s c, ownCycl]
    cases s.cycle.state <;> cases s.active <;> rfl
  · rw [paus_taken s c, ownPaus]
    cases s.cycle.state <;> rfl

/-! ## RUN and the selection (R100, R103 to R105) -/

theorem ownRun_stays (s : State) : Stays s (ownRun s).1 := by
  unfold ownRun
  split
  · exact Stays.refl s
  · exact State.select_stays s

theorem run_taken (s : State) (c : s.canTake = true) :
    exec .run s = .next ((ownRun s.reserveTx).1.replied .run (ownRun s.reserveTx).2) :=
  request_stays .run ownRun s c (ownRun_stays _)

/-- R115: whether the open roll is LOADED. -/
theorem rollLoaded_eq (s : State) : s.rollLoaded = s.openRoll.any fun r => r.state == .loaded := by
  unfold State.rollLoaded
  cases s.openRoll <;> rfl

/-- R100: a roll stands ready when it is LOADED with a gate frame. -/
theorem rollReady_eq (s : State) : s.rollReady = s.openRoll.any fun r => r.state == .loaded && s.gateFrame.isSome := by
  unfold State.rollReady
  cases s.openRoll <;> rfl

/-! ## The admission of an item (R100, R155, R156) -/

/-- R155: the estimate of an item, with the surcharge of a RUSH order. -/
theorem estimateOf_eq (c : RateClass) (cls : OrderClass) (copies steps : Nat) : estimateOf c cls copies steps =
    if cls = .rush then estimateBase c copies steps + (estimateBase c copies steps * c.rush + 500) / 1000
    else estimateBase c copies steps := by
  cases cls <;> rfl

/-- R156: a closed account is refused before its allowance is looked at. -/
theorem judgeAdmission_eq (a : Account) (estimate : Nat) : judgeAdmission a estimate =
    if a.state = .closed then some .closed
    else if (a.allowance.any fun limit => limit < a.charged + a.committed + estimate) then some .allowance
    else none := by
  unfold judgeAdmission
  simp only [beq_iff_eq]
  split
  · rfl
  cases a.allowance with
  | none => rfl
  | some limit => simp only [Option.any_some, decide_eq_true_eq, gt_iff_lt]

/-- The account that a number finds has that number. -/
theorem account_number {n : Nat} {a : Account} {s : State} (h : s.account n = some a) : a.number = n := by
  simpa using List.find?_some h

/-- R100: what an item is given at its admission, within the items of its order. -/
theorem admitItem_eq (o : Order) (it : Item) (c : RateClass) (estimate : Nat) (plan : List Int) (s : State) :
    s.admitItem o it c estimate plan =
      (s.updateAccount o.account fun a => { a with committed := a.committed + estimate }).updateOrder o.number fun q =>
        { q with
          state := .active
          minimum := some (q.minimum.getD c.minimum)
          items := q.items.map fun i => if i.number = it.number then i.admitItem c estimate plan else i } := by
  simp only [State.admitItem, updateItem_eq]

/-- R100, R156: the offer of an order whose first PENDING item, account, rate class and plan are known. -/
theorem offer_eq {n : Nat} {s : State} {o : Order} {it : Item} {a : Account} {c : RateClass} {plan : List Int}
    (found : s.order n = some o) (first : (o.items.find? fun i => i.state == .pending) = some it)
    (acct : s.account o.account = some a) (rate : s.store.rates[a.cls - 1]? = some c)
    (steps : s.plan it.plan = some plan) :
    s.offer n =
      match judgeAdmission a (estimateOf c o.cls it.copies plan.length) with
      | some cause => (s.updateOrder n fun q => { q with state := .held cause }, none)
      | none => (s.admitItem o it c (estimateOf c o.cls it.copies plan.length) plan, some (n, it.number)) := by
  simp only [State.offer, found, Order.firstPending, first, acct, steps, State.rateClass, rate, Option.getD_some] <;> rfl

/-- Settles O37: the scan is a chain of offers, and an offer is a judgement. -/
theorem runSelectsNextItem : Obligations.RunSelectsNextItem := by
  intro s ready waiting scan
  refine ⟨fun c => ?_, ?_⟩
  · rw [run_taken s c, ownRun]
    have busy : (s.reserveTx.cycle.state != .stopped || s.reserveTx.shutter.phase != .idle) = true ↔
        s.cycle.state ≠ .stopped ∨ s.shutter.phase ≠ .idle := by simp
    simp only [busy]
    split
    · exact congrArg _ (State.replied_reserve _ _ s)
    · rfl
  intro enter place
  refine ⟨?_, rfl, ?_⟩
  · have listed : s.scanList = scan := rfl
    have loaded : s.rollReady = ready := rollReady_eq s
    rw [State.select, loaded, listed]
    cases ready with
    | false => rfl
    | true =>
      simp only [if_true, Bool.true_eq_false, if_false]
      cases s.active with
      | some p => rfl
      | none =>
        obtain ⟨t, _ | p⟩ := scanOrders scan s
        · rfl
        · rfl
  · intro n rest o it a c plan found number first acct rate steps x estimate held above
    have worked : estimateOf c o.cls it.copies plan.length = estimate := estimateOf_eq c o.cls it.copies plan.length
    have same : a.number = o.account := account_number acct
    rw [scanOrders, offer_eq found first acct rate steps, worked, judgeAdmission_eq]
    by_cases closed : a.state = .closed
    · simp [closed, held]
    by_cases passed : above = true
    · simp only [closed, if_false]
      rw [if_pos passed, if_pos passed]
    · simp only [closed, if_false]
      rw [if_neg passed, if_neg passed, admitItem_eq, number, same]
      rfl

/-! ## RSUM (R115) -/

@[simp] theorem rollLoaded_reserveTx (s : State) : s.reserveTx.rollLoaded = s.rollLoaded := by simp [State.rollLoaded]

@[simp] theorem rollReady_reserveTx (s : State) : s.reserveTx.rollReady = s.rollReady := by simp [State.rollReady]

theorem rollReady_of_rollLoaded (s : State) : s.rollReady = (s.rollLoaded && s.gateFrame.isSome) := by
  unfold State.rollReady State.rollLoaded
  cases s.openRoll <;> rfl

theorem resumeRefusal_reserveTx (k : HaltCause) (r : Option Nat) (s : State) :
    s.reserveTx.resumeRefusal k r = s.resumeRefusal k r := by
  cases k <;> simp [State.resumeRefusal, State.freeRecords]

/-- R8: no frame record is free. -/
theorem freeRecords_eq_zero (s : State) : (s.freeRecords == 0) = true ↔ 1024 ≤ s.store.frames.length := by
  rw [beq_iff_eq, State.freeRecords, Nat.sub_eq_zero_iff_le]
  rfl

theorem resumeItem_stays (o : Order) (it : Item) (s : State) : Stays s (s.resumeItem o it) := by
  unfold State.resumeItem
  split
  · exact State.enterPlace_stays _ _ s
  · exact State.enterWarmup_stays _ s

/-- R115: the cycle goes on with the ACTIVE item, or with a selection. -/
def goOnWith (f : Order → Item → State → State) (s : State) : State :=
  match s.active with
  | some (o, it) => f o it s
  | none => s.select

theorem goOnWith_stays {f : Order → Item → State → State} (hf : ∀ o it s, Stays s (f o it s)) (s : State) :
    Stays s (goOnWith f s) := by
  unfold goOnWith
  split
  · exact hf _ _ s
  · exact State.select_stays s

/-- R115: from the queue of the ACTIVE item, or from PLACE. -/
def goOn : State → State := goOnWith State.resumeItem

/-- R115: from the warm-up of the ACTIVE item's lamp. -/
def warmAgain : State → State := goOnWith fun _ it t => t.enterWarmup it.mode.lamp

theorem goOn_stays (s : State) : Stays s (goOn s) := goOnWith_stays resumeItem_stays s

theorem warmAgain_stays (s : State) : Stays s (warmAgain s) := goOnWith_stays (fun _ _ => State.enterWarmup_stays _) s

/-- R115: with a full frame table gone and no gate frame, the cycle winds first. -/
theorem resume_tableFull (s : State) :
    s.resume .tableFull = if s.gateFrame = none then s.enterWinding else goOn s := by
  simp only [State.resume, Option.isNone_iff_eq_none]
  rfl

theorem resume_stays (k : HaltCause) (s : State) : Stays s (s.resume k) := by
  cases k with
  | rollEnd => exact goOn_stays s
  | jam => exact goOn_stays s
  | slip => exact goOn_stays s
  | lamp => exact warmAgain_stays s
  | shutOpen => exact warmAgain_stays s
  | shutClose => exact warmAgain_stays s
  | tableFull =>
    rw [resume_tableFull]
    split
    · exact State.enterWinding_stays s
    · exact goOn_stays s

theorem ownRsum_stays (s : State) : Stays s (ownRsum s).1 := by
  unfold ownRsum
  cases s.cycle.state with
  | halted k r =>
    dsimp only
    cases s.resumeRefusal k r with
    | some code => exact Stays.refl s
    | none => exact resume_stays k s
  | _ => exact Stays.refl s

theorem rsum_taken (s : State) (c : s.canTake = true) :
    exec .rsum s = .next ((ownRsum s.reserveTx).1.replied .rsum (ownRsum s.reserveTx).2) :=
  request_stays .rsum ownRsum s c (ownRsum_stays _)

/-- R115: an RSUM in HALTED is refused by its halt cause's condition, or taken. -/
theorem rsum_halted {s : State} {k : HaltCause} {r : Option Nat} (c : s.canTake = true)
    (halted : s.cycle.state = .halted k r) :
    exec .rsum s = .next (((s.resumeRefusal k r).map fun code => s.replied .rsum (refuse code)).getD
      ((s.reserveTx.resume k).replied .rsum (ok []))) := by
  rw [rsum_taken s c, ownRsum, State.reserveTx_cycle, halted]
  dsimp only
  rw [resumeRefusal_reserveTx]
  cases s.resumeRefusal k r with
  | some code => exact congrArg _ (State.replied_reserve _ _ s)
  | none => rfl

theorem goOn_reserveTx (s : State) : goOn s.reserveTx =
    match s.active with
    | some (o, it) =>
      if s.contexts = [] then s.reserveTx.enterPlace o.number it.number else s.reserveTx.enterWarmup it.mode.lamp
    | none => s.reserveTx.select := by
  simp only [goOn, goOnWith, active_reserveTx, State.resumeItem, State.reserveTx_contexts, List.isEmpty_iff]

theorem warmAgain_reserveTx (s : State) : warmAgain s.reserveTx =
    match s.active with
    | some (_, it) => s.reserveTx.enterWarmup it.mode.lamp
    | none => s.reserveTx.select := by
  simp only [warmAgain, goOnWith, active_reserveTx]

/-- Settles O41: outside HALTED an RSUM is BUSY, and in HALTED it has its halt cause's condition and its way on. -/
theorem resumeLeavesHalt : Obligations.ResumeLeavesHalt := by
  intro s c loaded ready next warm wind
  have isLoaded : s.rollLoaded = loaded := rollLoaded_eq s
  have isReady : s.rollReady = ready := by rw [rollReady_of_rollLoaded, isLoaded]
  have onward : goOn s.reserveTx = next s.reserveTx := goOn_reserveTx s
  have again : warmAgain s.reserveTx = warm s.reserveTx := warmAgain_reserveTx s
  have changed : ∀ r, (s.rollReady && s.openRoll.map (·.number) != r) = true ↔
      (ready = true ∧ s.openRoll.map Roll.number ≠ r) := fun r => by rw [isReady]; simp
  have winding : s.reserveTx.enterWinding = wind s.reserveTx := rfl
  clear_value loaded ready next warm wind
  cases cycle : s.cycle.state with
  | halted k r =>
    rw [rsum_halted c cycle]
    cases k with
    | rollEnd =>
      simp only [State.resumeRefusal, isReady, ← onward]
      cases ready <;> rfl
    | tableFull =>
      simp only [State.resumeRefusal, freeRecords_eq_zero, isLoaded, resume_tableFull, gateFrame_reserveTx, ← onward]
      by_cases full : 1024 ≤ s.store.frames.length
      · simp [full]
      cases loaded with
      | false => simp [full]
      | true => by_cases gate : s.gateFrame = none <;> simp [full, gate, winding]
    | lamp | shutOpen | shutClose =>
      simp only [State.resumeRefusal, isLoaded, ← again]
      cases loaded <;> rfl
    | jam | slip =>
      simp only [State.resumeRefusal, changed, ← onward]
      split <;> rfl
  | _ =>
    rw [rsum_taken s c, ownRsum, State.reserveTx_cycle, cycle]
    exact congrArg _ (State.replied_reserve _ _ s)

/-! ## Looking up and rewriting accounts (R152) -/

theorem updateAccount_eq (n : Nat) (f : Account → Account) (s : State) : s.updateAccount n f =
    { s with store := { s.store with accounts := s.store.accounts.map fun a => if a.number = n then f a else a } } := by
  simp only [State.updateAccount, beq_iff_eq]

theorem updateAccount_reserved (n : Nat) (f : Account → Account) (s : State) : s.reserveTx.updateAccount n f =
    { s.reserveTx with
      store := { s.store with accounts := s.store.accounts.map fun a => if a.number = n then f a else a } } := by
  rw [updateAccount_eq, State.reserveTx_store]

/-! ## The release of an account (R98) -/

theorem release_stays (n : Nat) (s : State) : Stays s (s.release n) := by
  unfold State.release
  split
  · exact (State.releaseOrders_stays n s).trans (State.selectIfWaiting_stays _)
  · exact Stays.refl s

/-- R98: a release by a request that has left the order book and the cycle as it found them. -/
theorem release_eq {s t : State} (n : Nat) (book : t.store.book = s.store.book) (cycle : t.cycle = s.cycle) : t.release n =
    if s.store.book.posted.any (Order.heldForAccount n) then
      if s.cycle.isWaiting then (t.releaseOrders n).select else t.releaseOrders n
    else t := by
  rw [State.release, State.releasesAny, book, selectIfWaiting_eq (s := s) (by simp [cycle])]

/-! ## ACCT (R152, R153) -/

theorem writeAccount_stays (a b : Account) (s : State) : Stays s (s.writeAccount a b) := by
  unfold State.writeAccount
  dsimp only
  split
  · exact (State.updateAccount_stays _ _ s).trans (release_stays _ _)
  · exact State.updateAccount_stays _ _ s

theorem setAccounts_reserveTx (l : List Account) (s : State) : s.reserveTx.setAccounts l = (s.setAccounts l).reserveTx :=
  reserveTx_comm (State.setAccounts l) (fun _ _ => rfl) s

theorem acctQuery_taken (asked : Option Int) (s : State) (c : s.canTake = true) :
    exec (.acctQuery asked) s = .next (s.replied .acct (ownAcctQuery asked s)) := by
  have same : ownAcctQuery asked s.reserveTx = ownAcctQuery asked s := by simp [ownAcctQuery]
  rw [← same]
  exact query_taken .acct (ownAcctQuery asked) s c

theorem acctRemove_taken (account : Int) (s : State) (c : s.canTake = true) :
    exec (.acctRemove account) s = .next ((ownAcctRemove account s).1.replied .acct (ownAcctRemove account s).2) := by
  refine request_answered .acct _ s _ _ c ?_
  simp only [ownAcctRemove, account_reserveTx, State.reserveTx_store, setAccounts_reserveTx]
  split
  · rfl
  split
  · rfl
  split <;> rfl

/-- R170: a write to an account that is held. -/
theorem acctWrite_held {account : Int} {name : Text} {cls : Int} {allowance : Option (Option Int)}
    {state : Option (Option AcctState)} {s : State} {a : Account} (c : s.canTake = true)
    (checked : checkAccount account name cls state = none) (held : s.account account.toNat = some a) :
    exec (.acctWrite account name cls allowance state) s = .next ((s.reserveTx.writeAccount a
      (a.rewrite name cls.toNat (allowance.map fun o => o.map clampAllowance) state.join)).replied .acct
        (ok [] (allowanceReport allowance))) := by
  have own : ownAcctWrite account name cls allowance state s.reserveTx =
      (s.reserveTx.writeAccount a (a.rewrite name cls.toNat (allowance.map fun o => o.map clampAllowance) state.join),
        ok [] (allowanceReport allowance)) := by
    simp only [ownAcctWrite, checked, account_reserveTx, held]
  have taken := request_stays .acct (ownAcctWrite account name cls allowance state) s c
    (by rw [own]; exact writeAccount_stays _ _ _)
  rwa [own] at taken

/-- R170: a write that is refused or creates an account. -/
theorem acctWrite_other {account : Int} {name : Text} {cls : Int} {allowance : Option (Option Int)}
    {state : Option (Option AcctState)} {s : State} (c : s.canTake = true)
    (other : checkAccount account name cls state ≠ none ∨ s.account account.toNat = none) :
    exec (.acctWrite account name cls allowance state) s =
      .next ((ownAcctWrite account name cls allowance state s).1.replied .acct
        (ownAcctWrite account name cls allowance state s).2) := by
  refine request_answered .acct _ s _ _ c ?_
  simp only [ownAcctWrite, account_reserveTx, State.reserveTx_store, setAccounts_reserveTx]
  cases checked : checkAccount account name cls state with
  | some a => rfl
  | none =>
    have absent := other.resolve_left fun h => h checked
    simp only [absent]
    split <;> rfl

/-- R153: the checks of a write that name no record, in their order. -/
theorem checkAccount_eq (account : Int) (name : Text) (cls : Int) (state : Option (Option AcctState)) :
    checkAccount account name cls state =
      if ¬(1 ≤ account ∧ account ≤ 9999) then some (refuseAt .range 1)
      else if 24 < name.length then some (refuseAt .range 2)
      else if ¬(1 ≤ cls ∧ cls ≤ 8) then some (refuseAt .range 3)
      else if state = some none then some (refuseAt .range 5)
      else none := by
  simp only [checkAccount, ← inRange_iff, Bool.not_eq_true, Bool.not_eq_true', beq_iff_eq]

/-- R153: a write that is refused by its fields, or else is answered as `t`. -/
theorem checkAccount_replied (account : Int) (name : Text) (cls : Int) (state : Option (Option AcctState)) (s t : State) :
    ((checkAccount account name cls state).map fun a => s.replied .acct a).getD t =
      if ¬(1 ≤ account ∧ account ≤ 9999) then s.replied .acct (refuseAt .range 1)
      else if 24 < name.length then s.replied .acct (refuseAt .range 2)
      else if ¬(1 ≤ cls ∧ cls ≤ 8) then s.replied .acct (refuseAt .range 3)
      else if state = some none then s.replied .acct (refuseAt .range 5)
      else t := by
  rw [checkAccount_eq]
  split
  · rfl
  split
  · rfl
  split
  · rfl
  split <;> rfl

/-- R153: what a write leaves out, the record keeps. -/
theorem rewrite_eq (a : Account) (name : Text) (cls : Nat) (allowance : Option (Option Int)) (limit : Int → Nat)
    (state : Option (Option AcctState)) : a.rewrite name cls (allowance.map fun o => o.map limit) state.join =
      { a with
        name := name, cls := cls
        allowance := match allowance with
          | some x => x.map limit
          | none => a.allowance
        state := match state with
          | some (some x) => x
          | _ => a.state } := by
  cases allowance <;> obtain _ | _ | x := state <;> rfl

/-- R153: the state of a new account is OPEN unless the write says CLOSED. -/
theorem newState_eq (state : Option (Option AcctState)) :
    state.join.getD .opened = if state = some (some .closed) then .closed else .opened := by
  obtain _ | _ | _ | _ := state <;> rfl

theorem releasedBy_iff (a b : Account) :
    b.releasedBy a = true ↔ a.allowance ≠ b.allowance ∨ (a.state = .closed ∧ b.state = .opened) := by
  simp [Account.releasedBy]

/-- R153: the highest allowance. -/
theorem clampAllowance_eq (v : Int) : clampAllowance v = (nearest 0 2147483647 v).toNat :=
  clampNat_eq_nearest (show 0 ≤ Config.maxMoney by decide) v

theorem allowanceReport_eq (allowance : Option (Option Int)) : allowanceReport allowance =
    match allowance with
    | some (some v) => clampedAt 4 0 2147483647 v
    | _ => [] := by
  obtain _ | _ | v := allowance
  · rfl
  · rfl
  · exact (clampReport_cons 4 0 2147483647 v []).trans (List.append_nil _)

/-! ## ZERO (R154) -/

theorem ownZero_stays (account : Int) (s : State) : Stays s (ownZero account s).1 := by
  unfold ownZero
  split
  · exact Stays.refl s
  split
  · exact Stays.refl s
  split
  · exact Stays.refl s
  · exact (State.updateAccount_stays _ _ s).trans (release_stays _ _)

theorem zero_taken (account : Int) (s : State) (c : s.canTake = true) :
    exec (.zero account) s = .next ((ownZero account s.reserveTx).1.replied .zero (ownZero account s.reserveTx).2) :=
  request_stays .zero (ownZero account) s c (ownZero_stays account _)

/-- Settles O52: each form's refusals in their order, the record that is written, and the release that a write or a ZERO makes
of the account once its record is written. -/
theorem accountRequests : Obligations.AccountRequests := by
  refine ⟨fun account cls name allowance state asked s c => ?_, fun n f s => ⟨rfl, updateAccount_eq n f s⟩⟩
  intro top limit freed release put naming report
  have reported : allowanceReport allowance = report := allowanceReport_eq allowance
  have released : ∀ t : State, t.store.book = s.store.book → t.cycle = s.cycle → t.release account.toNat = release t := by
    intro t book cycle
    rw [release_eq account.toNat book cycle]
    simp only [release, State.releaseOrders, State.setBook, book]
    rfl
  have limits : clampAllowance = limit := funext clampAllowance_eq
  clear_value report limit release
  refine ⟨?_, ?_, ?_, ?_⟩
  · rw [← checkAccount_replied]
    cases checked : checkAccount account name cls state with
    | some refusal =>
      rw [acctWrite_other c (.inl (by simp [checked]))]
      simp [ownAcctWrite, checked]
    | none =>
      cases held : s.account account.toNat with
      | some a =>
        have wrote : ∀ b : Account, b.number = a.number → s.reserveTx.writeAccount a b =
            if a.allowance ≠ b.allowance ∨ (a.state = .closed ∧ b.state = .opened) then release (put b) else put b := by
          intro b same
          have stored : s.reserveTx.updateAccount a.number (fun _ => b) = put b := by rw [updateAccount_reserved, ← same]
          simp only [State.writeAccount, stored, releasedBy_iff]
          rw [account_number held, released (put b) rfl (State.reserveTx_cycle s)]
        rw [acctWrite_held c checked held, reported, limits, rewrite_eq, wrote _ (by rfl)]
        rfl
      | none =>
        rw [acctWrite_other c (.inr held)]
        have room : Config.maxAccounts ≤ s.store.accounts.length ↔ 64 ≤ s.store.accounts.length := Iff.rfl
        simp only [ownAcctWrite, checked, held, reported, limits, room, newState_eq]
        by_cases full : 64 ≤ s.store.accounts.length
        · simp [full]
        · simp only [full, if_false]
          cases allowance <;> rfl
  · rw [acctQuery_taken asked s c]
    cases asked with
    | none => rfl
    | some n =>
      simp only [ownAcctQuery, ← inRange_iff]
      cases inRange 1 9999 n
      · rfl
      · cases s.account n.toNat <;> rfl
  · rw [acctRemove_taken account s c, ownAcctRemove]
    simp only [← inRange_iff]
    cases inRange 1 9999 account
    · rfl
    cases s.account account.toNat with
    | none => rfl
    | some a =>
      have named : (s.store.book.naming a.number != 0) = true ↔ 0 < naming a.number := by
        rw [bne_iff_ne]; exact Nat.pos_iff_ne_zero.symm
      by_cases busy : 0 < naming a.number
      · simp only [named, busy, if_true]
        rfl
      · simp only [named, busy, if_false]
        rfl
  · rw [zero_taken account s c, ownZero]
    simp only [← inRange_iff, account_reserveTx]
    cases inRange 1 9999 account
    · exact congrArg _ (State.replied_reserve _ _ s)
    cases held : s.account account.toNat with
    | none => exact congrArg _ (State.replied_reserve _ _ s)
    | some a =>
      simp only [bne_iff_ne, updateAccount_reserved]
      by_cases owed : a.committed = 0
      · rw [account_number held, released _ (by rfl) (by simp)]
        simp only [owed, ne_eq, not_true_eq_false, if_false]
        rfl
      · simp [owed, State.replied_reserve]

end Sys2Proof.OrderLaws

/-! PROOFS. The statements on chapter 6, Composing mount labels, and on the label edge that composes a label: hexadecimal strings
and glyphs, the emblem window and the DOTS stream, the four text lines, and the dots of the raster. -/

namespace Sys2Proof.LabelLaws

open Sys2Proof.Machine Sys2Proof.ExposureLaws Sys2Proof.OrderLaws

/-! ## Hexadecimal strings and glyph fields (R128, R172) -/

/-- Induction over the pairs of a text, as a hexadecimal string is read. -/
theorem pairInduction {motive : Text → Prop} (nil : motive []) (singleton : ∀ a, motive [a])
    (pair : ∀ a b rest, motive rest → motive (a :: b :: rest)) : ∀ t, motive t
  | [] => nil
  | [a] => singleton a
  | a :: b :: rest => pair a b rest (pairInduction nil singleton pair rest)

theorem hexBytes_pair_iff (a b : Char) (rest : Text) (l : List Byte) : hexBytes (a :: b :: rest) = some l ↔
    ∃ x y m, hexDigit a = some x ∧ hexDigit b = some y ∧ hexBytes rest = some m ∧
      BitVec.ofNat 8 (16 * x + y) :: m = l := by
  rw [hexBytes]
  cases hexDigit a <;> cases hexDigit b <;> cases hexBytes rest <;> simp

/-- R172: what a hexadecimal string is: pairs of hexadecimal digits. -/
theorem hexBytes_isSome_iff (t : Text) :
    (hexBytes t).isSome = true ↔ t.length % 2 = 0 ∧ ∀ c ∈ t, (hexDigit c).isSome = true := by
  induction t using pairInduction with
  | nil => simp [hexBytes]
  | singleton a => simp [hexBytes]
  | pair a b rest ih =>
    have found : (hexBytes (a :: b :: rest)).isSome = true ↔
        (hexDigit a).isSome = true ∧ (hexDigit b).isSome = true ∧ (hexBytes rest).isSome = true := by
      simp only [Option.isSome_iff_exists, hexBytes_pair_iff]
      grind
    rw [found, ih]
    have parity : (a :: b :: rest).length % 2 = rest.length % 2 := Nat.add_mod_right rest.length 2
    rw [parity, List.forall_mem_cons, List.forall_mem_cons]
    exact ⟨fun ⟨ha, hb, even, hr⟩ => ⟨even, ha, hb, hr⟩, fun ⟨even, ha, hb, hr⟩ => ⟨ha, hb, even, hr⟩⟩

theorem hexBytes_length {t : Text} {l : List Byte} (h : hexBytes t = some l) : t.length = 2 * l.length := by
  induction t using pairInduction generalizing l with
  | nil => simp_all [hexBytes]
  | singleton a => simp [hexBytes] at h
  | pair a b rest ih =>
    obtain ⟨x, y, m, -, -, tail, rfl⟩ := (hexBytes_pair_iff a b rest l).mp h
    simp only [List.length_cons, ih tail]
    omega

/-- R172: each byte is the value of its pair of digits. -/
theorem hexBytes_getElem? {t : Text} {l : List Byte} (h : hexBytes t = some l) {q : Nat} (hq : 2 * q + 1 < t.length) :
    ∃ a b x y, t[2 * q]? = some a ∧ t[2 * q + 1]? = some b ∧ hexDigit a = some x ∧ hexDigit b = some y ∧
      l[q]? = some (BitVec.ofNat 8 (16 * x + y)) := by
  induction t using pairInduction generalizing l q with
  | nil => simp at hq
  | singleton a => simp at hq
  | pair a b rest ih =>
    obtain ⟨x, y, m, hx, hy, tail, rfl⟩ := (hexBytes_pair_iff a b rest l).mp h
    cases q with
    | zero => exact ⟨a, b, x, y, rfl, rfl, hx, hy, rfl⟩
    | succ q => exact ih tail (by simp only [List.length_cons] at hq; omega)

/-- R128: what a glyph field may be. -/
theorem glyphOf_isSome_iff (t : Text) :
    (glyphOf t).isSome = true ↔ t.length ≤ 24 ∧ t.length % 2 = 0 ∧ ∀ c ∈ t, (hexDigit c).isSome = true := by
  rw [← hexBytes_isSome_iff, glyphOf]
  split <;> simp <;> omega

theorem glyphOf_row {t : Text} {g : Vector Byte 12} (h : glyphOf t = some g) :
    ∃ l, hexBytes t = some l ∧ ∀ q : Fin 12, g[q] = (l[q.val]?).getD 0 := by
  unfold glyphOf at h
  split at h
  · cases h
  · obtain ⟨l, hl, rfl⟩ := Option.map_eq_some_iff.mp h
    exact ⟨l, hl, fun q => by simp⟩

/-! ## GLYF (R128, R129) -/

/-- R128: the first field that is no glyph is refused at its number, and with none such every field gives its glyph. -/
theorem readGlyphs_eq (n : Nat) (l : List Text) : readGlyphs n l =
    match l.findIdx? fun t => (glyphOf t).isNone with
    | some i => .error (n + i)
    | none => .ok (l.filterMap glyphOf) := by
  induction l generalizing n with
  | nil => rfl
  | cons t l ih =>
    rw [readGlyphs, List.findIdx?_cons]
    cases h : glyphOf t with
    | none => rfl
    | some g =>
      simp only [ih, Option.isNone_some, Bool.false_eq_true, if_false, List.filterMap_cons, h]
      cases l.findIdx? fun t => (glyphOf t).isNone with
      | none => rfl
      | some i => simp [Except.map]; omega

theorem getElem?_filterMap {α β : Type} {f : α → Option β} {l : List α} (h : ∀ a ∈ l, (f a).isSome = true) (j : Nat) :
    (l.filterMap f)[j]? = l[j]?.bind f := by
  induction l generalizing j with
  | nil => rfl
  | cons a l ih =>
    obtain ⟨first, rest⟩ := List.forall_mem_cons.mp h
    obtain ⟨b, hb⟩ := Option.isSome_iff_exists.mp first
    rw [List.filterMap_cons_some hb]
    cases j with
    | zero => simp [hb]
    | succ j => exact ih rest j

/-- R128: consecutive places from `i` on take the glyphs, and every other place stands. -/
theorem writeGlyphs_getElem (i : Nat) (l : List (Vector Byte 12)) (t : GlyphTable) {k : Nat} (hk : k < 95) :
    (writeGlyphs i l t)[k] = ((if i ≤ k then l[k - i]? else none).getD t[k]) := by
  induction l generalizing i t with
  | nil => simp [writeGlyphs]
  | cons g l ih =>
    rw [writeGlyphs, ih, Vector.getElem_setIfInBounds hk]
    rcases Nat.lt_trichotomy k i with h | h | h
    · simp [show ¬ i + 1 ≤ k by omega, show ¬ i ≤ k by omega, show i ≠ k by omega]
    · subst h
      rw [if_neg (Nat.not_succ_le_self k), if_pos rfl, if_pos (Nat.le_refl k), Nat.sub_self]
      rfl
    · simp [show i + 1 ≤ k by omega, show i ≤ k by omega, show i ≠ k by omega, show k - i = k - (i + 1) + 1 by omega]

/-- R128: the glyph table after fields that all are glyphs have replaced those of the codes from `code` on. -/
theorem writeGlyphs_loaded {code : Int} {glyphs : List Text} (low : 32 ≤ code)
    (every : ∀ t ∈ glyphs, (glyphOf t).isSome = true) (table : GlyphTable) :
    writeGlyphs (code.toNat - 32) (glyphs.filterMap glyphOf) table = Vector.ofFn fun k : Fin 95 =>
      ((if code.toNat ≤ k.val + 32 then glyphs[k.val + 32 - code.toNat]? else none).bind glyphOf).getD table[k] := by
  ext1 k hk
  rw [writeGlyphs_getElem _ _ _ hk, Vector.getElem_ofFn, getElem?_filterMap every]
  by_cases h : code.toNat ≤ k + 32
  · rw [if_pos h, if_pos (by omega), show k - (code.toNat - 32) = k + 32 - code.toNat by omega]
    rfl
  · rw [if_neg h, if_neg (by omega)]
    rfl

theorem setGlyphs_reserveTx (t : GlyphTable) (s : State) : s.reserveTx.setGlyphs t = (s.setGlyphs t).reserveTx :=
  reserveTx_comm (State.setGlyphs t) (fun _ _ => rfl) s

theorem glyfLoad_taken (code : Int) (glyphs : List Text) (s : State) (c : s.canTake = true) :
    exec (.glyfLoad code glyphs) s =
      .next ((ownGlyfLoad code glyphs s).1.replied .glyf (ownGlyfLoad code glyphs s).2) := by
  refine request_answered .glyf (ownGlyfLoad code glyphs) s _ _ c ?_
  unfold ownGlyfLoad
  split
  · rfl
  split
  · rfl
  split
  · rfl
  cases readGlyphs 2 glyphs with
  | error n => rfl
  | ok l => simp only [setGlyphs_reserveTx, State.reserveTx_store]

/-- Settles O42: what a glyph field loads is read off its pairs of digits, and GLYF refuses the first field that is no glyph. -/
theorem glyphRequests : Obligations.GlyphRequests := by
  refine ⟨glyphOf_isSome_iff, fun t g h q => ?_, fun code glyphs s c => ⟨?_, ?_⟩⟩
  · obtain ⟨l, hl, row⟩ := glyphOf_row h
    refine ⟨fun given => ?_, fun missing => ?_⟩
    · obtain ⟨a, b, x, y, ha, hb, hx, hy, byte⟩ := hexBytes_getElem? hl given
      exact ⟨a, b, x, y, ha, hb, hx, hy, by rw [row, byte]; rfl⟩
    · have short := hexBytes_length hl
      rw [row, List.getElem?_eq_none (by omega)]
      rfl
  · rw [glyfLoad_taken code glyphs s c, ownGlyfLoad]
    have count : (glyphs.isEmpty || decide (16 < glyphs.length)) = true ↔ glyphs.length = 0 ∨ 16 < glyphs.length := by simp
    have outside : (!inRange 32 126 code) = true ↔ ¬(32 ≤ code ∧ code ≤ 126) := by
      rw [← inRange_iff, Bool.not_eq_true', Bool.not_eq_true]
    simp only [count, outside, readGlyphs_eq, gt_iff_lt]
    split
    · rfl
    split
    · rfl
    split
    · rfl
    cases first : glyphs.findIdx? fun t => (glyphOf t).isNone with
    | some i => simp only [Nat.add_comm 2 i]
    | none =>
      have every : ∀ t ∈ glyphs, (glyphOf t).isSome = true := by simpa using List.findIdx?_eq_none_iff.mp first
      simp only [writeGlyphs_loaded (by omega : 32 ≤ code) every, List.filterMap_length_eq_length.mpr every]
      -- The statement's table is a match on the same glyph.
      exact congrArg (fun t => Host.Outcome.next ((s.setGlyphs t).replied .glyf (ok [.num code, numF glyphs.length])))
        (congrArg Vector.ofFn (funext fun k => by generalize Option.bind _ glyphOf = g; cases g <;> rfl))
  · refine (query_taken .glyf (ownGlyfQuery code) s c).trans ?_
    simp only [ownGlyfQuery, ← inRange_iff, State.reserveTx_store]
    cases inRange 32 126 code <;> rfl

/-! ## EMBL (R130, R131) -/

theorem setWindowRect_reserveTx (x0 x1 y0 y1 : Nat) (s : State) :
    s.reserveTx.setWindowRect x0 x1 y0 y1 = (s.setWindowRect x0 x1 y0 y1).reserveTx :=
  reserveTx_comm (State.setWindowRect x0 x1 y0 y1) (fun _ _ => rfl) s

theorem setEmblem_reserveTx (e : EmblemRaster) (s : State) : s.reserveTx.setEmblem e = (s.setEmblem e).reserveTx :=
  reserveTx_comm (State.setEmblem e) (fun _ _ => rfl) s

theorem emblWindow_taken (x0 x1 y0 y1 : Int) (s : State) (c : s.canTake = true) : exec (.emblWindow x0 x1 y0 y1) s =
    .next ((ownEmblWindow x0 x1 y0 y1 s).1.replied .embl (ownEmblWindow x0 x1 y0 y1 s).2) := by
  refine request_answered .embl (ownEmblWindow x0 x1 y0 y1) s _ _ c ?_
  unfold ownEmblWindow
  dsimp only
  split
  · rfl
  split
  · rfl
  · simp only [setWindowRect_reserveTx, State.reserveTx_composer]

/-- Settles O43: EMBL's window clamped as R131 says, its order checked on the clamped coordinates, and the two other forms. -/
theorem emblemRequests : Obligations.EmblemRequests := by
  intro x0 x1 y0 y1 s c figures
  have fields : ∀ k : Composer, k.windowFields = figures k.x0 k.x1 k.y0 k.y1 := fun _ => rfl
  refine ⟨?_, ?_, ?_⟩
  · rw [emblWindow_taken x0 x1 y0 y1 s c, ownEmblWindow]
    have col : ∀ v, clampNat 0 63 v = (nearest 0 63 v).toNat := clampNat_eq_nearest (by omega)
    have row : ∀ v, clampNat 0 55 v = (nearest 0 55 v).toNat := clampNat_eq_nearest (by omega)
    simp only [col, row, fields, clampReport_cons, clampReport_nil, List.append_nil]
    clear_value figures
    split
    · rfl
    split
    · rfl
    · simp [State.setWindowRect, List.append_assoc]
  · exact request_answered .embl ownEmblClear s _ _ c (congrArg (·, _) (setEmblem_reserveTx _ s))
  · refine (query_taken .embl ownEmblQuery s c).trans ?_
    simp only [ownEmblQuery, fields, State.reserveTx_composer]
    rfl

/-! ## Dots and bytes of a row (R118, R132) -/

theorem setDot_getMsbD (row : BitVec 64) (marked : Bool) {col i : Nat} (hcol : col < 64) (hi : i < 64) :
    (setDot row col marked).getMsbD i = if i = col then marked else row.getMsbD i := by
  have bit : (1#64 <<< (63 - col)).getMsbD i = decide (i = col) := by
    simp only [BitVec.getMsbD, BitVec.getLsbD_shiftLeft, BitVec.getLsbD_one]
    grind
  cases marked
  · rw [setDot, if_neg (by decide), BitVec.getMsbD_and, BitVec.getMsbD_not, bit]
    by_cases h : i = col <;> simp [h, hi, hcol]
  · rw [setDot, if_pos rfl, BitVec.getMsbD_or, bit]
    by_cases h : i = col <;> simp [h]

/-- The first `n` bits of a byte written into a row, as `writeByte` writes all eight. -/
def writeBits (row : BitVec 64) (col x1 : Nat) (b : Byte) (n : Nat) : BitVec 64 :=
  (List.range n).foldl (fun r k => if col + k ≤ x1 then setDot r (col + k) (b.getMsbD k) else r) row

theorem writeByte_eq_writeBits (row : BitVec 64) (col x1 : Nat) (b : Byte) :
    writeByte row col x1 b = writeBits row col x1 b 8 := rfl

theorem writeBits_getMsbD (row : BitVec 64) (col : Nat) {x1 : Nat} (b : Byte) (n : Nat) {i : Nat} (hx : x1 < 64)
    (hi : i < 64) : (writeBits row col x1 b n).getMsbD i =
      if col ≤ i ∧ i < col + n ∧ i ≤ x1 then b.getMsbD (i - col) else row.getMsbD i := by
  induction n with
  | zero => rw [if_neg (by omega)]; rfl
  | succ n ih =>
    have next : writeBits row col x1 b (n + 1) =
        if col + n ≤ x1 then setDot (writeBits row col x1 b n) (col + n) (b.getMsbD n) else writeBits row col x1 b n := by
      simp [writeBits, List.range_succ]
    rw [next]
    by_cases inside : col + n ≤ x1
    · rw [if_pos inside, setDot_getMsbD _ _ (by omega) hi, ih]
      by_cases here : i = col + n
      · rw [if_pos here, if_pos (by omega), here, Nat.add_sub_cancel_left]
      · rw [if_neg here]
        exact ite_congr (propext (by omega)) (fun _ => rfl) fun _ => rfl
    · rw [if_neg inside, ih]
      exact ite_congr (propext (by omega)) (fun _ => rfl) fun _ => rfl

/-! ## Places in the emblem window (R130, R132) -/

/-- R132: the place, counted in bytes from the window's origin row by row, that a dot of the window belongs to. -/
def placeOf (c : Composer) (row col : Nat) : Nat := (row - c.y0) * c.rowLength + (col - c.x0) / 8

/-- R130: a dot lies in the emblem window. -/
abbrev InWindow (c : Composer) (row col : Nat) : Prop := c.y0 ≤ row ∧ row ≤ c.y1 ∧ c.x0 ≤ col ∧ col ≤ c.x1

theorem rowLength_pos (c : Composer) : 0 < c.rowLength := by
  unfold Composer.rowLength
  omega

theorem capacity_pos (c : Composer) : 0 < c.capacity :=
  Nat.mul_pos (rowLength_pos c) (Nat.succ_pos _)

theorem byte_lt_rowLength {c : Composer} {row col : Nat} (h : InWindow c row col) : (col - c.x0) / 8 < c.rowLength := by
  obtain ⟨-, -, left, right⟩ := h
  unfold Composer.rowLength
  omega

theorem placeOf_row {c : Composer} {row col : Nat} (h : InWindow c row col) : placeOf c row col / c.rowLength = row - c.y0 := by
  rw [placeOf, Nat.add_comm, Nat.add_mul_div_right _ _ (rowLength_pos c), Nat.div_eq_of_lt (byte_lt_rowLength h), Nat.zero_add]

theorem placeOf_byte {c : Composer} {row col : Nat} (h : InWindow c row col) :
    placeOf c row col % c.rowLength = (col - c.x0) / 8 := by
  rw [placeOf, Nat.mul_add_mod_self_right, Nat.mod_eq_of_lt (byte_lt_rowLength h)]

/-- R132: a byte's place is one of the window's rows. -/
theorem place_row_lt (c : Composer) (n : Nat) : n % c.capacity / c.rowLength < c.height :=
  Nat.div_lt_of_lt_mul (Nat.mod_lt n (capacity_pos c))

/-- R132: the dots of a place: eight columns of one row, but those beyond the window's right column. -/
theorem window_place_iff {c : Composer} {row col : Nat} (ordered : c.y0 ≤ c.y1) (n : Nat) :
    InWindow c row col ∧ n % c.capacity = placeOf c row col ↔
      c.y0 + n % c.capacity / c.rowLength = row ∧ c.x0 + 8 * (n % c.capacity % c.rowLength) ≤ col ∧
        col < c.x0 + 8 * (n % c.capacity % c.rowLength) + 8 ∧ col ≤ c.x1 := by
  constructor
  · rintro ⟨inside, place⟩
    rw [place, placeOf_row inside, placeOf_byte inside]
    omega
  · rintro ⟨rfl, low, high, right⟩
    have height := place_row_lt c n
    unfold Composer.height at height
    have byte : (col - c.x0) / 8 = n % c.capacity % c.rowLength := by omega
    have bottom : c.y0 + n % c.capacity / c.rowLength ≤ c.y1 := by
      generalize n % c.capacity / c.rowLength = i at height ⊢
      omega
    refine ⟨⟨Nat.le_add_right _ _, bottom, by omega, right⟩, ?_⟩
    rw [placeOf, Nat.add_sub_cancel_left, byte, Nat.mul_comm, Nat.div_add_mod]

theorem succ_mod (n : Nat) {d : Nat} (pos : 0 < d) : (n + 1) % d = if n % d + 1 = d then 0 else n % d + 1 := by
  have below := Nat.mod_lt n pos
  rw [← Nat.mod_add_mod]
  split
  · rename_i full
    rw [full, Nat.mod_self]
  · exact Nat.mod_eq_of_lt (by omega)

theorem dvd_succ_iff (n : Nat) {d : Nat} (pos : 0 < d) : d ∣ n + 1 ↔ n % d + 1 = d := by
  rw [Nat.dvd_iff_mod_eq_zero, succ_mod n pos]
  split <;> simp_all

/-- R132: after the byte at place `n` comes the one at place `n + 1`, the origin again when the window is full. -/
theorem advancePos_eq (c : Composer) (n : Nat) :
    c.advancePos (n % c.capacity / c.rowLength) (n % c.capacity % c.rowLength) =
      ((n + 1) % c.capacity / c.rowLength, (n + 1) % c.capacity % c.rowLength, decide (c.capacity ∣ n + 1)) := by
  have row := place_row_lt c n
  have full : c.capacity = c.rowLength * c.height := rfl
  have wraps : decide (c.capacity ∣ n + 1) = decide (n % c.capacity + 1 = c.capacity) :=
    decide_eq_decide.mpr (dvd_succ_iff n (capacity_pos c))
  rw [succ_mod n (capacity_pos c), wraps, Composer.advancePos]
  generalize n % c.capacity = m at *
  by_cases ends : m % c.rowLength + 1 = c.rowLength
  · have next : m + 1 = c.rowLength * (m / c.rowLength + 1) := by
      have := Nat.div_add_mod m c.rowLength
      rw [Nat.mul_succ]
      omega
    rw [if_neg (by omega)]
    by_cases last : m / c.rowLength + 1 < c.height
    · have more : m + 1 ≠ c.capacity := by
        rw [next, full]
        exact fun e => by have := Nat.eq_of_mul_eq_mul_left (rowLength_pos c) e; omega
      rw [if_pos last, if_neg more, decide_eq_false more, next, Nat.mul_div_cancel_left _ (rowLength_pos c), Nat.mul_mod_right]
    · have all : m + 1 = c.capacity := by rw [next, full, show m / c.rowLength + 1 = c.height by omega]
      rw [if_neg last, if_pos all, decide_eq_true all, Nat.zero_div, Nat.zero_mod]
  · have inside : ¬ c.rowLength ∣ m + 1 := by rwa [dvd_succ_iff m (rowLength_pos c)]
    have more : m + 1 ≠ c.capacity := fun e => inside (by rw [e, full]; exact Nat.dvd_mul_right _ _)
    have := Nat.mod_lt m (rowLength_pos c)
    rw [if_pos (by omega), if_neg more, decide_eq_false more, Nat.succ_div_of_not_dvd inside, succ_mod m (rowLength_pos c),
      if_neg ends]

/-! ## A run of bytes (R132) -/

/-- R132: a byte written at place `n` of the window. -/
def writeAt (c : Composer) (b : Byte) (e : EmblemRaster) (n : Nat) : EmblemRaster :=
  e.setIfInBounds (c.y0 + n % c.capacity / c.rowLength)
    (writeByte ((e[c.y0 + n % c.capacity / c.rowLength]?).getD 0) (c.x0 + 8 * (n % c.capacity % c.rowLength)) c.x1 b)

/-- R132: the emblem raster after a run of bytes from place `n` on. -/
def drawn (c : Composer) : List Byte → EmblemRaster → Nat → EmblemRaster
  | [], e, _ => e
  | b :: rest, e, n => drawn c rest (writeAt c b e n) (n + 1)

/-- R132: a run of bytes from place `n` on, where `n` counts the passes through the window too. -/
theorem writeDots_eq (c : Composer) (bytes : List Byte) (e : EmblemRaster) (n : Nat) :
    writeDots c bytes e (n % c.capacity / c.rowLength) (n % c.capacity % c.rowLength) (n / c.capacity) =
      (drawn c bytes e n, (n + bytes.length) % c.capacity / c.rowLength, (n + bytes.length) % c.capacity % c.rowLength,
        (n + bytes.length) / c.capacity) := by
  induction bytes generalizing e n with
  | nil => rfl
  | cons b rest ih =>
    have wraps : (if c.capacity ∣ n + 1 then n / c.capacity + 1 else n / c.capacity) = (n + 1) / c.capacity := by
      rw [Nat.succ_div]
      split <;> rfl
    rw [writeDots]
    simp only [advancePos_eq, decide_eq_true_eq, wraps]
    rw [ih, List.length_cons, Nat.add_right_comm n 1, Nat.add_assoc n]
    rfl

section

variable {c : Composer} {row col : Nat} (hr : row < 56) (hcol : col < 64) (right : c.x1 ≤ 63) (ordered : c.y0 ≤ c.y1)

include hcol right ordered

/-- R132: a byte written at place `n` changes the dots of that place alone. -/
theorem writeAt_getMsbD (b : Byte) (e : EmblemRaster) (n : Nat) : (writeAt c b e n)[row].getMsbD col =
    if InWindow c row col ∧ n % c.capacity = placeOf c row col then b.getMsbD ((col - c.x0) % 8) else e[row].getMsbD col := by
  have place := window_place_iff ordered (row := row) (col := col) n
  rw [writeAt, Vector.getElem_setIfInBounds hr]
  by_cases here : c.y0 + n % c.capacity / c.rowLength = row
  · have old : (e[c.y0 + n % c.capacity / c.rowLength]?).getD 0 = e[row] := by simp [here, hr]
    rw [if_pos here, old, writeByte_eq_writeBits, writeBits_getMsbD _ _ b 8 (by omega) hcol]
    by_cases dot : InWindow c row col ∧ n % c.capacity = placeOf c row col
    · obtain ⟨-, low, high, right⟩ := place.mp dot
      have bit : col - (c.x0 + 8 * (n % c.capacity % c.rowLength)) = (col - c.x0) % 8 := by omega
      rw [if_pos ⟨low, high, right⟩, if_pos dot, bit]
    · rw [if_neg dot, if_neg fun ⟨low, high, right⟩ => dot (place.mpr ⟨here, low, high, right⟩)]
  · rw [if_neg here, if_neg fun dot => here (place.mp dot).1]

theorem drawn_untouched {bytes : List Byte} (e : EmblemRaster) {n : Nat}
    (missed : InWindow c row col → ∀ k, k < bytes.length → (n + k) % c.capacity ≠ placeOf c row col) :
    (drawn c bytes e n)[row].getMsbD col = e[row].getMsbD col := by
  induction bytes generalizing e n with
  | nil => rfl
  | cons b rest ih =>
    have first : ¬(InWindow c row col ∧ n % c.capacity = placeOf c row col) := fun ⟨inside, here⟩ =>
      missed inside 0 (Nat.succ_pos _) here
    rw [drawn, ih, writeAt_getMsbD hr hcol right ordered, if_neg first]
    intro inside k hk
    rw [Nat.add_right_comm, Nat.add_assoc]
    exact missed inside (k + 1) (Nat.succ_lt_succ hk)

/-- R132: a dot holds the bit of the last byte written over it. -/
theorem drawn_last {bytes : List Byte} (e : EmblemRaster) {n k : Nat} {b : Byte} (inside : InWindow c row col)
    (byte : bytes[k]? = some b) (here : (n + k) % c.capacity = placeOf c row col)
    (last : ∀ j, k < j → j < bytes.length → (n + j) % c.capacity ≠ placeOf c row col) :
    (drawn c bytes e n)[row].getMsbD col = b.getMsbD ((col - c.x0) % 8) := by
  induction bytes generalizing e n k with
  | nil => simp at byte
  | cons a rest ih =>
    have later : ∀ j, (n + 1 + j) % c.capacity = (n + (j + 1)) % c.capacity := fun j => by
      rw [Nat.add_right_comm, Nat.add_assoc]
    cases k with
    | zero =>
      obtain rfl : a = b := by simpa using byte
      rw [drawn, drawn_untouched hr hcol right ordered, writeAt_getMsbD hr hcol right ordered, if_pos ⟨inside, here⟩]
      intro _ j hj
      rw [later]
      exact last (j + 1) (Nat.succ_pos _) (Nat.succ_lt_succ hj)
    | succ k =>
      refine ih _ (by simpa using byte) (by rw [later]; exact here) fun j hk hj => ?_
      rw [later]
      exact last (j + 1) (Nat.succ_lt_succ hk) (Nat.succ_lt_succ hj)

end

/-! ## DOTS (R132) -/

theorem setStream_reserveTx (i j : Nat) (s : State) : s.reserveTx.setStream i j = (s.setStream i j).reserveTx :=
  reserveTx_comm (State.setStream i j) (fun _ _ => rfl) s

theorem dots_taken (data : Text) (s : State) (c : s.canTake = true) :
    exec (.dots data) s = .next ((ownDots data s).1.replied .dots (ownDots data s).2) := by
  refine request_answered .dots (ownDots data) s _ _ c ?_
  unfold ownDots
  split
  · rfl
  cases hexBytes data with
  | none => rfl
  | some bytes => simp only [setEmblem_reserveTx, setStream_reserveTx, State.reserveTx_composer, State.reserveTx_store]

/-- The place of the next byte of the DOTS stream (R132). -/
def streamPlace (c : Composer) : Nat :=
  match c.stream with
  | some (i, j) => i * c.rowLength + j
  | none => 0

theorem streamPlace_pos {c : Composer} (inside : ∀ i j, c.stream = some (i, j) → i < c.height ∧ j < c.rowLength) :
    c.stream.getD (0, 0) = (streamPlace c % c.capacity / c.rowLength, streamPlace c % c.capacity % c.rowLength) ∧
      streamPlace c / c.capacity = 0 := by
  unfold streamPlace
  cases h : c.stream with
  | none => simp
  | some p =>
    obtain ⟨i, j⟩ := p
    obtain ⟨row, byte⟩ := inside i j h
    have room : i * c.rowLength + j < c.capacity := by
      calc i * c.rowLength + j < (i + 1) * c.rowLength := by rw [Nat.succ_mul]; omega
        _ ≤ c.height * c.rowLength := Nat.mul_le_mul_right _ row
        _ = c.capacity := Nat.mul_comm _ _
    dsimp only
    rw [Nat.mod_eq_of_lt room, Nat.div_eq_of_lt room, Nat.mul_add_mod_self_right, Nat.mod_eq_of_lt byte, Nat.add_comm,
      Nat.add_mul_div_right _ _ (rowLength_pos c), Nat.div_eq_of_lt byte, Nat.zero_add]
    exact ⟨rfl, rfl⟩

theorem ownDots_bytes {data : Text} {bytes : List Byte} {s : State} (given : data ≠ []) (hex : hexBytes data = some bytes)
    (inside : ∀ i j, s.composer.stream = some (i, j) → i < s.composer.height ∧ j < s.composer.rowLength) :
    let total := streamPlace s.composer + bytes.length
    let place := total % s.composer.capacity
    ownDots data s = (((s.setEmblem (drawn s.composer bytes s.store.emblem (streamPlace s.composer))).setStream
        (place / s.composer.rowLength) (place % s.composer.rowLength)),
      ok [numF bytes.length, numF (place / s.composer.rowLength), numF (place % s.composer.rowLength),
        numF (total / s.composer.capacity)]) := by
  obtain ⟨start, fresh⟩ := streamPlace_pos inside
  have run := writeDots_eq s.composer bytes s.store.emblem (streamPlace s.composer)
  rw [fresh] at run
  simp only [ownDots, List.isEmpty_iff, given, if_false, hex, start, run]

/-- Settles O44: a run of bytes fills the window's places in turn, and a dot keeps the bit of the last byte at its place. -/
theorem dotsFillTheWindow : Obligations.DotsFillTheWindow := by
  intro data s taken _ right ordered _ c len cap inside start
  refine ⟨fun bad => ?_, fun bytes given hex => ?_⟩
  · rw [dots_taken data s taken]
    obtain rfl | bad := bad
    · rfl
    · simp only [ownDots, bad]
      split <;> rfl
  · refine ⟨drawn c bytes s.store.emblem start, ?_, fun row col hr hcol => ⟨?_, ?_⟩⟩
    · rw [dots_taken data s taken, ownDots_bytes given hex inside]
      rfl
    · intro missed
      refine drawn_untouched hr hcol right ordered _ fun window k hk here => ?_
      obtain ⟨top, bottom, left, right⟩ := window
      obtain out | out | out | out | missed := missed
      · exact absurd top (Nat.not_le.mpr out)
      · exact absurd bottom (Nat.not_le.mpr out)
      · exact absurd left (Nat.not_le.mpr out)
      · exact absurd right (Nat.not_le.mpr out)
      · exact missed k hk here
    · intro top bottom left right' k b byte here last
      exact drawn_last hr hcol right ordered _ ⟨top, bottom, left, right'⟩ byte here last

/-! ## The text lines (R120 to R125) and LTXT (R134) -/

/-- R124: what follows the sign of a bracket mark: the whole stops and the fraction, as the manual writes them. -/
theorem bracketMark_sign (v : Int) : bracketMark v = (if v < 0 then '-' else '+') ::
    ((if v.natAbs / 12 = 0 then [] else Nat.toDigits 10 (v.natAbs / 12)) ++
      (if v.natAbs / 12 = 0 ∨ v.natAbs % 12 = 0 then [] else [' ']) ++
      match v.natAbs % 12 with
      | 0 => []
      | 4 => ['1', '/', '3']
      | 6 => ['1', '/', '2']
      | 8 => ['2', '/', '3']
      | r => Nat.toDigits 10 r ++ ['/', '1', '2']) := by
  have fraction : ∀ r : Nat, (if r = 0 then [] else fractionText r) =
      match r with
      | 0 => []
      | 4 => ['1', '/', '3']
      | 6 => ['1', '/', '2']
      | 8 => ['2', '/', '3']
      | r => Nat.toDigits 10 r ++ ['/', '1', '2'] := by
    intro r
    by_cases whole : r = 0
    · subst whole; rfl
    · rw [if_neg whole]
      unfold fractionText
      split <;> simp_all [decimal]
  rw [← fraction]
  by_cases neg : v < 0 <;> simp [bracketMark, neg, decimal, or_comm]

@[simp] theorem rollNumbered_reserveTx (n : Nat) (s : State) : s.reserveTx.rollNumbered n = s.rollNumbered n := by
  simp [State.rollNumbered]

@[simp] theorem frameAt_reserveTx (r f : Nat) (s : State) : s.reserveTx.frameAt r f = s.frameAt r f := by simp [State.frameAt]

@[simp] theorem labelLines_reserveTx (f : Frame) (s : State) : s.reserveTx.labelLines f = s.labelLines f := by
  simp [State.labelLines, State.stockCode, State.item]

theorem ltxt_taken (roll frame : Int) (s : State) (c : s.canTake = true) :
    exec (.ltxt roll frame) s = .next (s.replied .ltxt (ownLtxt roll frame s)) := by
  have same : ownLtxt roll frame s.reserveTx = ownLtxt roll frame s := by simp [ownLtxt, State.namedFrame]
  rw [← same]
  exact query_taken .ltxt (ownLtxt roll frame) s c

theorem frameAt_named {roll number : Nat} {s : State} {f : Frame} (h : s.frameAt roll number = some f) :
    f.roll = roll ∧ f.number = number := by
  simpa [State.frameAt] using List.find?_some h

theorem stockCode_eq {roll : Nat} {s : State} {r : Roll} (h : s.rollNumbered roll = some r) :
    s.stockCode roll = ((s.film r.film).map FilmRecord.code).getD [] := by
  simp only [State.stockCode, h, Option.bind_some]
  cases s.film r.film <;> rfl

theorem lineFour_eq (roll number : Nat) (code : Text) (offset : Int) : lineFour roll number code offset =
    Nat.toDigits 10 roll ++ ['/'] ++
      (List.replicate (3 - (Nat.toDigits 10 number).length) '0' ++ Nat.toDigits 10 number) ++
      (if code = [] then [] else ' ' :: code) ++ (if offset = 0 then [] else ' ' :: bracketMark offset) := by
  simp [lineFour, frameText, frameDigits, decimal]

/-- R120: the frame's item, where its reference leads to one, gives the first three lines. -/
theorem labelLines_eq (f : Frame) (s : State) : s.labelLines f =
    match f.ref, f.ref.bind fun q => s.item q.order q.item with
    | some q, some it =>
      ([lineOne it q.set, cutLine it.title, cutLine it.credit, lineFour f.roll f.number (s.stockCode f.roll) q.offset], true)
    | _, _ => ([[], [], [],
        lineFour f.roll f.number (s.stockCode f.roll) ((f.ref.map ItemRef.offset).getD 0)], false) := by
  unfold State.labelLines
  cases f.ref with
  | none => rfl
  | some q =>
    simp only [Option.bind_some]
    cases s.item q.order q.item <;> rfl

/-- Settles O45: LTXT's refusals in their order, with the lines that R120 to R125 give a frame, and the bracket marks of R124. -/
theorem labelTextOfFrame : Obligations.LabelTextOfFrame := by
  refine ⟨fun a low high => ⟨?_, ?_⟩, fun roll frame s c => ?_⟩
  · rw [bracketMark_sign, if_neg (by omega)]
    rfl
  · rw [bracketMark_sign, if_pos (by omega), Int.natAbs_neg]
    rfl
  · rw [ltxt_taken roll frame s c, ownLtxt]
    have ranges : (!frameRange roll frame) = true ↔ ¬(1 ≤ roll ∧ roll ≤ 65535 ∧ 1 ≤ frame ∧ frame ≤ 1000) := by
      simp only [frameRange, inRange, Bool.not_eq_true', Bool.and_eq_false_iff, decide_eq_false_iff_not]
      omega
    simp only [ranges, State.namedFrame]
    split
    · rfl
    cases found : s.rollNumbered roll.toNat with
    | none => rfl
    | some r =>
      by_cases short : r.frameCount < frame.toNat
      · simp only [short, if_true]
      cases named : s.frameAt roll.toNat frame.toNat with
      | none => simp only [short, if_false]
      | some f =>
        have undecided : (f.state != .exposed && f.state != .spoiled) = true ↔ f.state ≠ .exposed ∧ f.state ≠ .spoiled := by
          simp
        obtain ⟨hr, hn⟩ := frameAt_named named
        simp only [short, if_false, undecided, labelLines_eq, hr, hn, stockCode_eq found, lineFour_eq]
        split
        · rfl
        cases f.ref with
        | none => rfl
        | some q =>
          simp only [Option.bind_some]
          cases s.item q.order q.item <;> rfl

/-! ## The dots of a text row (R118, R126) -/

/-- The number whose digits to the base 256 are the first `n` of the given bytes, first byte highest. -/
def packed (b : Nat → Nat) (n : Nat) : Nat := (List.range n).foldl (fun acc i => acc * 256 + b i) 0

theorem packed_succ (b : Nat → Nat) (n : Nat) : packed b (n + 1) = 2 ^ 8 * packed b n + b n := by
  simp [packed, List.range_succ, Nat.mul_comm]

theorem packed_testBit {b : Nat → Nat} (byte : ∀ i, b i < 2 ^ 8) {n i r : Nat} (hi : i < n) (hr : r < 8) :
    (packed b n).testBit (8 * (n - 1 - i) + r) = (b i).testBit r := by
  induction n with
  | zero => omega
  | succ n ih =>
    rw [packed_succ, Nat.testBit_two_pow_mul_add _ (byte n)]
    obtain earlier | last : i < n ∨ i = n := by omega
    · rw [if_neg (by omega), ← ih earlier]
      congr 1
      omega
    · rw [if_pos (by omega), last]
      congr 1
      omega

theorem glyphByte_lt (g : GlyphTable) (q : Nat) (c : Option Char) : glyphByte g q c < 2 ^ 8 := by
  cases c with
  | none => exact Nat.two_pow_pos 8
  | some ch =>
    simp only [glyphByte]
    cases (g[ch.toNat - 32]?).bind fun rows => rows[q]? with
    | none => decide
    | some row => exact row.isLt

theorem getMsbD_ofNat_of_lt {w n i : Nat} (h : i < w) : (BitVec.ofNat w n).getMsbD i = n.testBit (w - 1 - i) := by
  simp [BitVec.getMsbD, BitVec.getLsbD_ofNat, h]; omega

/-- R118: cell `j / 8` of a text row shows the row byte of its character's glyph. -/
theorem textRow_getMsbD (g : GlyphTable) (text : Text) (q : Nat) {j : Nat} (hj : j < 256) :
    (textRow g text q).getMsbD j = (glyphByte g q text[j / 8]?).testBit (7 - j % 8) := by
  have dot : (textRow g text q).getMsbD j = (packed (fun i => glyphByte g q text[i]?) 32).testBit (255 - j) :=
    getMsbD_ofNat_of_lt hj
  rw [dot, show 255 - j = 8 * (32 - 1 - j / 8) + (7 - j % 8) by omega]
  exact packed_testBit (fun i => glyphByte_lt g q _) (by omega) (by omega)

theorem textRow_after_end (g : GlyphTable) {text : Text} (q : Nat) {j : Nat} (hj : j < 256) (past : text.length ≤ j / 8) :
    (textRow g text q).getMsbD j = false := by
  rw [textRow_getMsbD g text q hj, List.getElem?_eq_none past]
  exact Nat.zero_testBit _

theorem textRow_glyph {g : GlyphTable} {text : Text} {q : Nat} {j : Nat} (hj : j < 256) (hq : q < 12) {ch : Char}
    {rows : Vector Byte 12} (cell : text[j / 8]? = some ch) (glyph : g[ch.toNat - 32]? = some rows) :
    (textRow g text q).getMsbD j = rows[q].getMsbD (j % 8) := by
  have byte : glyphByte g q text[j / 8]? = rows[q].toNat := by simp [glyphByte, cell, glyph, hq]
  rw [textRow_getMsbD g text q hj, byte]
  simp [BitVec.getMsbD, BitVec.getLsbD]; omega

/-! ## The label edge (R119, R139 to R141) -/

/-- R119: the emblem in columns 0 to 63, and the text area from column 64 on. -/
theorem composeRaster_getMsbD (emblem : EmblemRaster) (g : GlyphTable) (lines : List Text) {row : Nat} (hr : row < 56)
    (col : Nat) : (composeRaster emblem g lines)[row].getMsbD col =
      if 64 ≤ col then (textAreaRow g lines row).getMsbD (col - 64) else emblem[row].getMsbD col := by
  rw [composeRaster, Vector.getElem_ofFn]
  exact BitVec.getMsbD_append

theorem strobeTime_eq (d : Nat) : strobeTime d =
    match d with
    | 1 => 160
    | 2 => 200
    | 8 => 290
    | _ => 240 := by
  unfold strobeTime
  grind

theorem enterPrinting_eq {h : LabelHand} {f : Frame} {s : State} (found : s.frameAt h.roll h.frame = some f) :
    s.enterPrinting h = { s with
      composer := { s.composer with raster := composeRaster s.store.emblem s.store.glyphs (s.labelLines f).1 }
      printer :=
        { s.printer with
          state := .printing, rows := 0, transferring := true, strobing := false, stepping := false
          strobe := some (strobeTime s.store.density) } } := by
  simp [State.enterPrinting, State.compose, found, State.withPrinter]

/-- Settles O46: the raster is the composed one, and each dot of its text area is a bit of its character's glyph. -/
theorem labelEdgeComposes : Obligations.LabelEdgeComposes := by
  intro s live
  have taken : exec .labelEdge s = .next s.labelEdge := by simp [exec, execLabelEdge, whenLive, live]
  refine ⟨fun other => ?_, fun h f feeding hand found => ?_⟩
  · rw [taken]
    unfold State.labelEdge
    split
    · contradiction
    · rfl
  · refine ⟨composeRaster s.store.emblem s.store.glyphs (s.labelLines f).1, ?_, fun row hr col => ?_⟩
    · have printed := enterPrinting_eq found
      rw [strobeTime_eq] at printed
      rw [taken, State.labelEdge, feeding, hand]
      exact congrArg Host.Outcome.next printed
    · rw [composeRaster_getMsbD _ _ _ hr]
      refine ⟨fun emblem => if_neg (by omega), fun low high => ?_⟩
      rw [if_pos low, textAreaRow]
      refine ⟨fun margin => ?_, fun top bottom => ?_⟩
      · rw [if_pos (by simpa using margin)]
        simp
      · rw [if_neg (by simp; omega)]
        exact ⟨textRow_after_end _ _ (by omega), fun ch g cell _ _ => textRow_glyph (by omega) (by omega) cell⟩

end Sys2Proof.LabelLaws

/-! PROOFS. The statement on chapter 9, The Line Link, about the dispatch of a slot and the sending of lines: the fields of a line,
the readers of the requests, the checks of a line, the dispatch, and the transmitter. -/

namespace Sys2Proof.LinkLaws

open Sys2Proof.Machine

/-! ## The fields of a line (R172) -/

/-- R172: text that a plain field may hold. -/
def PlainText (u : Text) : Prop := ∀ d ∈ u, d ≠ ',' ∧ d ≠ '"' ∧ d ≠ ' '

/-- R172: text as a quoted field holds it, each quote written twice. -/
def escaped (u : Text) : Text := u.flatMap fun d => if d = '"' then ['"', '"'] else [d]

/-- R172: a field as a line holds it. -/
def written : Field → Text
  | .empty => []
  | .plain u => u
  | .quoted u => '"' :: escaped u ++ ['"']

/-- R172: a field that a line can hold. -/
def Writable : Field → Prop
  | .empty => True
  | .plain u => u ≠ [] ∧ PlainText u
  | .quoted _ => True

/-- Where the reading stands after the characters of a field, before the comma or the end that closes it. -/
def scanned : Field → Scan
  | .empty => .start
  | .plain u => .plain u.reverse
  | .quoted u => .closed u.reverse

theorem scan_plain {u : Text} (plain : PlainText u) (p : Text) (n : Nat) (done : List Field) (rest : Text) :
    scanFields (.plain p) n done (u ++ rest) = scanFields (.plain (u.reverse ++ p)) n done rest := by
  induction u generalizing p with
  | nil => rfl
  | cons d u ih =>
    obtain ⟨⟨comma, quote, space⟩, others⟩ := List.forall_mem_cons.mp plain
    rw [List.cons_append, scanFields]
    simp [comma, quote, space, ih others]

/-- R172: a plain field begins with any of its characters. -/
theorem scan_plain_start {u : Text} (plain : PlainText u) (given : u ≠ []) (n : Nat) (done : List Field) (rest : Text) :
    scanFields .start n done (u ++ rest) = scanFields (.plain u.reverse) n done rest := by
  cases u with
  | nil => contradiction
  | cons d u =>
    obtain ⟨⟨comma, quote, space⟩, others⟩ := List.forall_mem_cons.mp plain
    rw [List.cons_append, scanFields]
    simp [comma, quote, space, scan_plain others]

/-- R172: inside a quoted field a quote written twice is one, and every other character stands for itself. -/
theorem scan_quoted (u p : Text) (n : Nat) (done : List Field) (rest : Text) :
    scanFields (.quoted p) n done (escaped u ++ rest) = scanFields (.quoted (u.reverse ++ p)) n done rest := by
  induction u generalizing p with
  | nil => rfl
  | cons d u ih =>
    have next : scanFields (.quoted p) n done (escaped (d :: u) ++ rest) =
        scanFields (.quoted (d :: p)) n done (escaped u ++ rest) := by
      by_cases quote : d = '"' <;> simp [escaped, quote, scanFields]
    rw [next, ih]
    simp

theorem scan_written {f : Field} (good : Writable f) (n : Nat) (done : List Field) (rest : Text) :
    scanFields .start n done (written f ++ rest) = scanFields (scanned f) n done rest := by
  cases f with
  | empty => rfl
  | plain u => exact scan_plain_start good.2 good.1 n done rest
  | quoted u =>
    have body := scan_quoted u [] n done ('"' :: rest)
    simpa [written, scanned, scanFields] using body

theorem scanned_comma (f : Field) (n : Nat) (done : List Field) (rest : Text) :
    scanFields (scanned f) n done (',' :: rest) = scanFields .start (n + 1) (f :: done) rest := by
  cases f <;> simp [scanned, scanFields]

theorem scanned_end (f : Field) (n : Nat) (done : List Field) :
    scanFields (scanned f) n done [] = .ok (done.reverse ++ [f]) := by
  cases f <;> simp [scanned, scanFields]

/-- R172: fields with a comma after each are read in turn. -/
theorem scan_fields {fs : List Field} (good : ∀ f ∈ fs, Writable f) (n : Nat) (done : List Field) (rest : Text) :
    scanFields .start n done ((fs.flatMap fun f => written f ++ [',']) ++ rest) =
      scanFields .start (n + fs.length) (fs.reverse ++ done) rest := by
  induction fs generalizing n done with
  | nil => rfl
  | cons f fs ih =>
    obtain ⟨first, others⟩ := List.forall_mem_cons.mp good
    have next := (scan_written first n done (',' :: ((fs.flatMap fun f => written f ++ [',']) ++ rest))).trans
      (scanned_comma f n done _)
    simpa [ih others, Nat.add_comm, Nat.add_left_comm] using next

theorem parseFields_after {fs : List Field} (good : ∀ f ∈ fs, Writable f) {rest : Text}
    (given : (fs.flatMap fun f => written f ++ [',']) ++ rest ≠ []) :
    parseFields ((fs.flatMap fun f => written f ++ [',']) ++ rest) = scanFields .start (fs.length + 1) fs.reverse rest := by
  rw [parseFields, if_neg (by simpa using given), scan_fields good, List.append_nil, Nat.add_comm]

theorem scan_plain_fault {t : Text} (plain : PlainText t) {c : Char} (fault : c = ' ' ∨ (c = '"' ∧ t ≠ [])) (n : Nat)
    (done : List Field) (rest : Text) : scanFields .start n done (t ++ c :: rest) = .error n := by
  by_cases empty : t = []
  · obtain rfl : c = ' ' := by simpa [empty] using fault
    simp [empty, scanFields]
  · rw [scan_plain_start plain empty]
    obtain rfl | ⟨rfl, -⟩ := fault <;> simp [scanFields]

theorem scan_closed_fault (t : Text) {c : Char} (comma : c ≠ ',') (quote : c ≠ '"') (n : Nat) (done : List Field)
    (rest : Text) : scanFields .start n done (written (.quoted t) ++ c :: rest) = .error n := by
  rw [scan_written (f := .quoted t) trivial]
  simp [scanned, scanFields, comma, quote]

theorem scan_unclosed (t : Text) (n : Nat) (done : List Field) : scanFields .start n done ('"' :: escaped t) = .error n := by
  have body := scan_quoted t [] n done []
  simpa [scanFields] using body

/-! ## Reading a request gives a request (R171, R172) -/

/-- What a reading gives, if it gives a command, is a request. -/
def Requests {ε : Type} (r : Except ε Instr) : Prop := ∀ i, r = .ok i → isRequest i = true

@[simp] theorem requests_ok {ε : Type} (i : Instr) : Requests (.ok i : Except ε Instr) ↔ isRequest i = true := by
  simp [Requests]

@[simp] theorem requests_error {ε : Type} (e : ε) : Requests (.error e : Except ε Instr) := fun _ h => nomatch h

theorem requests_map {ε α : Type} {mk : α → Instr} (h : ∀ a, isRequest (mk a) = true) (r : Except ε α) :
    Requests (r.map mk) := by
  cases r with
  | error e => exact requests_error e
  | ok a => exact (requests_ok _).mpr (h a)

theorem requests_bind {ε α : Type} {f : α → Except ε Instr} (h : ∀ a, Requests (f a)) (r : Except ε α) :
    Requests (r >>= f) := by
  cases r with
  | error e => exact requests_error e
  | ok a => exact h a

/-- R171: a reader's FORM refusal, and the request it gives otherwise. -/
theorem requests_form : ∀ r : Read Instr, Requests r → Requests (match r with
    | .ok i => .ok i
    | .error e => .error (.refuse .form e) : Except Answer Instr) := fun r h => by
  cases r with
  | error e => exact requests_error _
  | ok i => exact (requests_ok i).mpr ((requests_ok i).mp h)

theorem readEmbl_requests (l : List Field) : Requests (readEmbl l) := by
  unfold readEmbl
  repeat' split
  all_goals simp [isRequest, supplyEvent, standEvent]

theorem readAcct_requests (l : List Field) : Requests (readAcct l) := by
  simp only [readAcct]
  split
  · repeat' split
    all_goals simp [isRequest, supplyEvent, standEvent]
  · split
    · exact requests_error _
    · refine requests_form _ ?_
      repeat' first | refine requests_bind (fun _ => ?_) _ | split
      all_goals simp [isRequest, supplyEvent, standEvent]
  · exact requests_form _ (requests_map (fun _ => rfl) _)

/-- Every reader reads field after field, and each of its branches ends in a refusal or in a request of its verb. -/
theorem readRequest_requests (v : Verb) (l : List Field) : Requests (readRequest v l) := by
  cases v
  case embl => exact readEmbl_requests l
  case acct => exact readAcct_requests l
  case read => exact requests_form _ (requests_map (fun _ => rfl) _)
  case roll | take | dens => exact requests_form _ (requests_map (fun o => by cases o <;> rfl) _)
  all_goals
    refine requests_form _ ?_
    simp only [noFields, oneNumber, oneFrame, readLoad, readMark, readPick, readZone, readRamp, readConf, readOffs,
      readGain, readCalb, readWtch, readFilm, readPlan, readTrim, readCalc, readOrdr, readItem, readItemFields, readCncl,
      readLite, readGlyf, readDots, readRate, readTier, readWipe, badCount]
    repeat' first | refine requests_bind (fun _ => ?_) _ | refine requests_map (fun _ => ?_) _ | split
    all_goals simp [isRequest, supplyEvent, standEvent]

/-! ## The checks of a line (R171) -/

theorem ofText_text (v : Verb) : Verb.ofText v.text = some v := by cases v <;> rfl

theorem ofText_eq_none {t : Text} (unknown : ∀ v : Verb, v.text ≠ t) : Verb.ofText t = none := by
  simpa [Verb.ofText] using fun v _ => unknown v

theorem fourCapitals_iff (t : Text) : fourCapitals t = true ↔ 4 ≤ t.length ∧ ∀ c ∈ t.take 4, 'A' ≤ c ∧ c ≤ 'Z' := by
  have four : (t.take 4).length = 4 ↔ 4 ≤ t.length := by
    rw [List.length_take]
    omega
  simp only [fourCapitals, capital, Bool.and_eq_true, beq_iff_eq, four, List.all_eq_true, decide_eq_true_eq]

/-- R171: every verb but RUN and GO is four capital letters. -/
theorem verb_capitals (v : Verb) : v = .run ∨ v = .go ∨ fourCapitals v.text = true := by
  cases v <;> simp [fourCapitals, capital, Verb.text]

/-- R171: a line that is no RUN or GO and whose first four characters are a verb begins with four capital letters. -/
theorem fourCapitals_of_verb {t : Text} {v : Verb} (long : shortVerb t = none) (front : v.text = t.take 4) :
    fourCapitals t = true := by
  have whole : v.text.length < 4 → t = v.text := fun short => by
    rw [front, List.length_take] at short
    rw [front, List.take_of_length_le (by omega)]
  obtain rfl | rfl | capitals := verb_capitals v
  · rw [whole (by decide)] at long
    cases long
  · rw [whole (by decide)] at long
    cases long
  · rwa [front, fourCapitals, List.take_take, Nat.min_self] at capitals

theorem checkLine_notCapitals {t : Text} (long : shortVerb t = none) (bad : fourCapitals t = false) :
    checkLine t = .error (refuse .form) := by simp [checkLine, long, bad]

theorem checkLine_fifth {t : Text} (long : shortVerb t = none) (good : fourCapitals t = true) {c : Char} {rest : Text}
    (fifth : t.drop 4 = c :: rest) (space : c ≠ ' ') : checkLine t = .error (refuse .form) := by
  simp [checkLine, long, good, fifth, space]

theorem checkLine_unknown {t : Text} (long : shortVerb t = none) (good : fourCapitals t = true)
    (fifth : t.drop 4 = [] ∨ ∃ rest, t.drop 4 = ' ' :: rest) (unknown : ∀ v : Verb, v.text ≠ t.take 4) :
    checkLine t = .error (refuse .verb) := by
  obtain fifth | ⟨rest, fifth⟩ := fifth <;> simp [checkLine, long, good, fifth, ofText_eq_none unknown]

/-- R171: what is left of the checks once the verb is known: the fields and their count, and the forms of the verb. -/
def checkFields (v : Verb) (rest : Text) : Except Answer (Verb × Instr) :=
  match parseFields rest with
  | .error n => .error (refuseAt .form n)
  | .ok l => if Config.maxFields < l.length then .error (refuse .form) else (readRequest v l).map fun i => (v, i)

theorem checkFields_eq (v : Verb) (rest : Text) : checkFields v rest =
    match parseFields rest with
    | .error n => .error (refuseAt .form n)
    | .ok l =>
      if 24 < l.length then .error (refuse .form)
      else match readRequest v l with
        | .error a => .error a
        | .ok i => .ok (v, i) := by
  unfold checkFields
  cases parseFields rest with
  | error n => rfl
  | ok l => cases h : readRequest v l <;> simp [h, Except.map, Config.maxFields]

theorem checkFields_isRequest {v w : Verb} {rest : Text} {i : Instr} (h : checkFields v rest = .ok (w, i)) :
    isRequest i = true := by
  rw [checkFields_eq] at h
  split at h
  · cases h
  split at h
  · cases h
  split at h
  · cases h
  · cases h
    exact readRequest_requests _ _ _ ‹_›

theorem checkLine_verb {t : Text} {v : Verb} (long : shortVerb t = none) (front : v.text = t.take 4)
    (fifth : t.drop 4 = [] ∨ ∃ rest, t.drop 4 = ' ' :: rest) : checkLine t = checkFields v ((t.drop 4).drop 1) := by
  have known : Verb.ofText (t.take 4) = some v := by rw [← front, ofText_text]
  have good := fourCapitals_of_verb long front
  obtain fifth | ⟨rest, fifth⟩ := fifth
  · simp only [checkLine, long, good, fifth, known]
    rfl
  · simp only [checkLine, long, good, fifth, known]
    rfl

theorem checkLine_short {t : Text} {v : Verb} (short : shortVerb t = some v) :
    checkLine t = checkFields v (splitSpace t).2 := by
  simp only [checkLine, short]
  rfl

/-- R171: a line that passes its checks has passed those of the fields. -/
theorem checkLine_isRequest {t : Text} {v : Verb} {i : Instr} (h : checkLine t = .ok (v, i)) : isRequest i = true := by
  cases long : shortVerb t with
  | some w => exact checkFields_isRequest ((checkLine_short long).symm.trans h)
  | none =>
    cases good : fourCapitals t with
    | false => cases (checkLine_notCapitals long good).symm.trans h
    | true =>
      by_cases fifth : t.drop 4 = [] ∨ ∃ rest, t.drop 4 = ' ' :: rest
      · by_cases known : ∃ w : Verb, w.text = t.take 4
        · obtain ⟨w, front⟩ := known
          exact checkFields_isRequest ((checkLine_verb long front fifth).symm.trans h)
        · cases (checkLine_unknown long good fifth (not_exists.mp known)).symm.trans h
      · obtain ⟨c, rest, after⟩ := List.exists_cons_of_ne_nil fun ends => fifth (.inl ends)
        cases (checkLine_fifth long good after fun space => fifth (.inr ⟨rest, space ▸ after⟩)).symm.trans h

/-! ## Dispatch (R168 to R171) -/

/-- R170: an owner is handed its request as the command itself would be. -/
theorem exec_request {i : Instr} (h : isRequest i = true) (s : State) : exec i s = takeRequest i s := by
  cases i <;> first | rfl | cases h

theorem takeRequest_completes (i : Instr) (s : State) : ∃ u, takeRequest i s = .next u := by
  cases i <;> exact ⟨_, rfl⟩

theorem takeOldest_none {l : List LineSlot} (h : ∀ x ∈ l, x.state = .filling) : takeOldest l = none := by
  induction l with
  | nil => rfl
  | cons x l ih =>
    obtain ⟨first, rest⟩ := List.forall_mem_cons.mp h
    simp [takeOldest, LineSlot.full, first, ih rest]

theorem takeOldest_first {before after : List LineSlot} {x : LineSlot} (h : ∀ y ∈ before, y.state = .filling)
    (full : x.state ≠ .filling) : takeOldest (before ++ x :: after) = some (x, before ++ after) := by
  induction before with
  | nil => simp [takeOldest, LineSlot.full, full]
  | cons y l ih =>
    obtain ⟨first, rest⟩ := List.forall_mem_cons.mp h
    simp [takeOldest, LineSlot.full, first, ih rest]

/-- R170: the oldest full slot is dispatched on the state without it. -/
theorem dispatch_taken {s : State} {before after : List LineSlot} {x : LineSlot} (c : s.canTake = true)
    (slots : s.link.slots = before ++ x :: after) (h : ∀ y ∈ before, y.state = .filling) (full : x.state ≠ .filling) :
    exec .dispatch s = x.dispatch { s with link := { s.link with slots := before ++ after } } := by
  have found := takeOldest_first (after := after) h full
  simp [exec, execDispatch, c, slots, found]

/-- R170, R171: a refused line ends the DOTS stream unless it begins with DOTS, and its refusal is placed. -/
theorem refuseLine_eq (x : LineSlot) (a : Answer) (s : State) : s.refuseLine x a =
    (if x.badHead = false ∧ x.chars.take 4 = ['D', 'O', 'T', 'S'] then s else s.endStream).placeReply
      { verb := x.verb, answer := a } := by
  have dots : x.isDots = true ↔ x.badHead = false ∧ x.chars.take 4 = ['D', 'O', 'T', 'S'] := by
    simp [LineSlot.isDots, Verb.text]
  simp only [State.refuseLine, dots]

/-- R171: a READY slot whose line the Link refuses. -/
theorem dispatch_refused {x : LineSlot} {a : Answer} (ready : x.state = .ready) (h : x.check = .error a) (t : State) :
    x.dispatch t = .next ((t.refuseLine x a).oweOvers x.overrun) := by
  simp [LineSlot.dispatch, ready, h, thenNext]

theorem dispatch_accepted {x : LineSlot} {v : Verb} {i : Instr} (ready : x.state = .ready) (h : x.check = .ok (v, i))
    (t : State) : x.dispatch t = thenNext (State.oweOvers x.overrun) (takeRequest i t) := by
  simp [LineSlot.dispatch, ready, h]

theorem check_unmarked {x : LineSlot} (long : x.tooLong = false) (malformed : x.malformed = false) :
    x.check = checkLine x.chars := by simp [LineSlot.check, LineSlot.marked, long, malformed]

/-! ## The transmitter (R175) -/

theorem chooseLine_reply {s : State} {r : Reply} {rest : List Reply} (h : s.link.replies = r :: rest) :
    s.chooseLine = { s with outbox := { s.outbox with tx := .reply } } := by simp [State.chooseLine, h]

theorem chooseLine_noReply {s : State} (empty : s.link.replies = []) :
    s.chooseLine = { s with outbox := s.outbox.sendNotice } := by simp [State.chooseLine, empty]

theorem lineSent_live {s : State} (live : s.live = true) : exec .lineSent s = .next s.lineSent := by
  simp [exec, execLineSent, whenLive, live]

/-- R166, R178, R182: what follows a reply: a new rate, the end of the discarding of lines, or a WIPE that becomes due. -/
theorem afterReply_eq (a : After) (s : State) : s.afterReply a = { s with
    wipeDue := s.wipeDue || a == .wipe
    link :=
      { s.link with
        discard := s.link.discard && a != .rset
        rate := match a with
          | .baud v => v
          | _ => s.link.rate } } := by
  have same : ∀ x y : After, (x == y) = decide (x = y) := fun _ _ => rfl
  cases a <;> simp [State.afterReply, bne, same]

/-- R168, R175: a sent reply leaves the queue, the OVER replies owed take its place, and what follows it is done. -/
theorem lineSent_reply {s : State} {r : Reply} {rest : List Reply} (tx : s.outbox.tx = .reply)
    (replies : s.link.replies = r :: rest) : s.lineSent = State.chooseLine { s with
      wipeDue := s.wipeDue || r.after == .wipe
      link :=
        { s.link with
          replies := rest ++ List.replicate (min s.link.overOwed (4 - rest.length)) overReply
          overOwed := s.link.overOwed - min s.link.overOwed (4 - rest.length)
          discard := s.link.discard && r.after != .rset
          rate := match r.after with
            | .baud v => v
            | _ => s.link.rate } } := by
  rw [State.lineSent, tx]
  simp only [replies, afterReply_eq]
  rfl

/-- Settles O56: the oldest full slot and what becomes of it, the checks of a line and its fields in their order, and the
transmitter's next line. -/
theorem dispatchAndSending : Obligations.DispatchAndSending := by
  refine ⟨fun s => ⟨fun c => ?_, fun filling => ?_, fun before x after c slots h => ?_⟩, fun t long => ?_,
    fun fs t c rest => ?_, fun s => ?_⟩
  · simp [exec, execDispatch, c]
  · simp [exec, execDispatch, takeOldest_none filling]
  · intro t owe say verb told
    have taken : x.state ≠ .filling → exec .dispatch s = x.dispatch t := dispatch_taken c slots h
    have refused : ∀ a, x.state = .ready → x.check = .error a → exec .dispatch s = .next (owe (say verb a told)) := by
      intro a ready bad
      rw [taken (by simp [ready]), dispatch_refused ready bad, refuseLine_eq]
      rfl
    refine ⟨fun late => ?_, fun ready long => ?_, fun ready long malformed => ?_, fun a ready long malformed bad => ?_,
      fun v i ready long malformed good => ?_⟩
    · rw [taken (by simp [late]), LineSlot.dispatch, if_pos (by simp [late])]
      rfl
    · exact refused _ ready (by simp [LineSlot.check, LineSlot.marked, long])
    · exact refused _ ready (by simp [LineSlot.check, LineSlot.marked, long, malformed])
    · exact refused a ready (by rw [check_unmarked long malformed, bad])
    · have request := checkLine_isRequest good
      obtain ⟨u, done⟩ := takeRequest_completes i t
      refine ⟨request, u, by rw [exec_request request, done], ?_⟩
      rw [taken (by simp [ready]), dispatch_accepted ready (by rw [check_unmarked long malformed, good]), done]
      rfl
  · intro four
    have capitals : fourCapitals t = true ↔ four := fourCapitals_iff t
    refine ⟨fun bad => ?_, fun good => ?_, fun c rest good fifth space => ?_, fun good fifth unknown => ?_,
      fun v front fifth => ?_⟩
    · rw [← capitals, Bool.not_eq_true] at bad
      exact ⟨checkLine_notCapitals long bad, by simp [lineVerb, long, bad]⟩
    · simp [lineVerb, long, capitals.mpr good]
    · exact checkLine_fifth long (capitals.mpr good) fifth space
    · exact checkLine_unknown long (capitals.mpr good) fifth unknown
    · exact (checkLine_verb long front fifth).trans (checkFields_eq v _)
  · intro plain inLine good before writable
    have shape : inLine = written := funext fun f => by cases f <;> rfl
    have fit : ∀ f, good f → Writable f := fun f h => by cases f <;> exact h
    have read := fun r => parseFields_after (rest := r) fun f mem => fit f (writable f mem)
    simp only [before, shape] at *
    refine ⟨rfl, fun f h given => ?_, fun h fault => ?_, fun comma quote => ?_, ?_⟩
    · have last := scan_written (fit f h) (fs.length + 1) fs.reverse []
      rw [read _ given, ← List.append_nil (written f), last, scanned_end, List.reverse_reverse]
    · rw [List.append_assoc, read _ (by simp), scan_plain_fault h fault]
    · rw [List.append_assoc, read _ (by simp), scan_closed_fault t comma quote]
    · rw [read _ (by simp)]
      exact scan_unclosed t _ _
  · intro choose wake
    have chosen : ∀ t : State, t.chooseLine = choose t := by
      intro t
      simp only [choose]
      cases replies : t.link.replies with
      | cons r rest => exact chooseLine_reply replies
      | nil =>
        rw [chooseLine_noReply replies, Outbox.sendNotice]
        cases first : t.outbox.first with
        | none =>
          simp only [Outbox.first, NoticeKind.all] at first
          simp only [first]
        | some n =>
          simp only [Outbox.first, NoticeKind.all] at first
          simp only [first]
          rfl
    have woken : ∀ t : State, t.wake = wake t := fun t => by simp [State.wake, wake, chosen]
    refine ⟨fun live => ⟨fun idle => ?_, fun n notice => ?_, fun r rest reply replies => ?_⟩, woken s, fun n => woken _,
      woken _⟩
    · rw [lineSent_live live, State.lineSent, idle]
    · rw [lineSent_live live, State.lineSent, notice, ← chosen]
    · rw [lineSent_live live, lineSent_reply reply replies, chosen]
      rfl

end Sys2Proof.LinkLaws

/-! PROOFS. The statements on chapter 7, Printing labels: the events of a feed and of the paper, the printing of the rows and the
completion of a label, and the requests of the Label Print Channel. -/

namespace Sys2Proof.PrintLaws

open Sys2Proof.Machine Sys2Proof.ExposureLaws Sys2Proof.LabelLaws

/-! ## Events of a part that runs (R180) -/

theorem whenLive_of_live {s : State} (live : s.live = true) (f : State → State) : whenLive f s = .next (f s) := by
  simp [whenLive, live]

theorem whenLiveLine_of_live {s : State} (live : s.live = true) (level : InputLines → InputLines) (f : State → State) :
    whenLiveLine level f s = .next (f { s with lines := level s.lines }) := by
  simp [whenLiveLine, live]

/-- An event that changes the Label Print Channel in one case alone. -/
theorem whenLive_printer_if {s : State} (live : s.live = true) {f : Printer → Printer} {c : Prop} [Decidable c] {q : Printer}
    (changes : f s.printer = if c then q else s.printer) :
    whenLive (State.withPrinter f) s = .next (if c then { s with printer := q } else s) := by
  rw [whenLive_of_live live, State.withPrinter, changes]
  split <;> rfl

/-! ## Feeding (R139) -/

theorem feedRow_of_not_feeding {s : State} (other : s.printer.state ≠ .feeding) : s.feedRow = s := by
  unfold State.feedRow
  split
  · contradiction
  · rfl

theorem feedRow_of_feeding {s : State} {h : LabelHand} (feeding : s.printer.state = .feeding) (hand : s.printer.hand = some h) :
    s.feedRow =
      if 120 ≤ s.printer.rows + 1 then s.feedLimit h else s.withPrinter fun p => { p with rows := p.rows + 1 } := by
  rw [State.feedRow, feeding, hand]
  rfl

theorem feedRowStep_live {s : State} (live : s.live = true) : exec .feedRowStep s = .next s.feedRow :=
  whenLive_of_live live _

/-- R139: the limit is the row step that makes the row counter 120. -/
theorem feedRowLimit_live {s : State} (live : s.live = true) :
    exec .feedRowLimit s = .next (if s.printer.rows + 1 = 120 then s.feedRow else s) := by
  refine (whenLive_of_live live _).trans ?_
  simp only [beq_iff_eq]
  rfl

/-! ## Paper (R144) -/

theorem paperOut_live {s : State} (live : s.live = true) :
    exec .paperOut s = .next ({ s with lines := { s.lines with paperOut := true } } : State).paperGone :=
  whenLiveLine_of_live live (fun l => { l with paperOut := true }) State.paperGone

theorem paperIn_live {s : State} (live : s.live = true) :
    exec .paperIn s = .next ({ s with lines := { s.lines with paperOut := false } } : State).paperBack :=
  whenLiveLine_of_live live (fun l => { l with paperOut := false }) State.paperBack

theorem paperGone_of_out {s : State} (out : s.printer.paperOut = true) : s.paperGone = s := by
  rw [State.paperGone, if_pos out]

/-- R144: the states of the channel in which paper that runs out stalls the label in hand. -/
def stallsForPaper (c : ChanState) : Prop := c = .feeding ∨ c = .printing ∨ c = .stalled .noGap

theorem paperStall_eq {s : State} {h : LabelHand} (hand : s.printer.hand = some h) :
    s.paperStall = (s.withPrinter (Printer.stall .paper)).raiseLabel h.roll .paper := by
  rw [State.paperStall, hand]

theorem paperGone_stalls {s : State} {h : LabelHand} (present : s.printer.paperOut = false) (hand : s.printer.hand = some h)
    (stalls : stallsForPaper s.printer.state) :
    s.paperGone = ((s.setPaper true).withPrinter (Printer.stall .paper)).raiseLabel h.roll .paper := by
  rw [← paperStall_eq (s := s.setPaper true) hand, State.paperGone, present]
  obtain c | c | c := stalls <;> rw [c] <;> rfl

theorem paperGone_stalled {s : State} (present : s.printer.paperOut = false) (stalled : s.printer.state = .stalled .paper) :
    s.paperGone = (s.setPaper true).withPrinter fun p => { p with paperWait := false } := by
  rw [State.paperGone, present, stalled]
  rfl

theorem paperGone_passes {s : State} (present : s.printer.paperOut = false)
    (passes : s.printer.state = .presenting ∨ s.printer.state = .idle) : s.paperGone = s.setPaper true := by
  rw [State.paperGone, present]
  obtain c | c := passes <;> rw [c] <;> rfl

theorem paperBack_of_present {s : State} (present : s.printer.paperOut = false) : s.paperBack = s := by
  rw [State.paperBack, present]
  rfl

theorem paperBack_of_out {s : State} (out : s.printer.paperOut = true) : s.paperBack =
    if s.printer.state = .stalled .paper then (s.setPaper false).withPrinter fun p => { p with paperWait := true }
    else s.setPaper false := by
  simp [State.paperBack, out]

theorem paperWaited_eq (p : Printer) :
    p.paperWaited = if p.paperWait = true ∧ p.state = .stalled .paper then p.startFeed else p := by
  simp only [Printer.paperWaited, Bool.and_eq_true, beq_iff_eq]

/-- Settles O49: a feed's row step by the row it comes to, and each paper event by the state of the channel it finds. -/
theorem feedAndPaperEvents : Obligations.FeedAndPaperEvents := by
  intro s live p quiet out back
  refine ⟨fun other => ?_, fun h feeding hand => ?_, fun gone => ?_,
    fun present => ⟨fun h hand stalls => ?_, fun stalled => ?_, fun passes => ?_⟩, fun present => ?_, fun gone => ?_,
    whenLive_printer_if live (paperWaited_eq p)⟩
  · rw [feedRowStep_live live, feedRowLimit_live live, feedRow_of_not_feeding other, ite_self]
    exact ⟨rfl, rfl⟩
  · rw [feedRowStep_live live, feedRowLimit_live live, feedRow_of_feeding feeding hand]
    refine ⟨fun below => ?_, fun last => ?_⟩
    · rw [if_neg (Nat.not_le.mpr below), if_neg (Nat.ne_of_lt below)]
      exact ⟨rfl, rfl⟩
    · rw [if_pos last, if_pos (Nat.le_of_eq last.symm)]
      exact ⟨rfl, rfl⟩
  · exact (paperOut_live live).trans (congrArg _ (paperGone_of_out gone))
  · exact (paperOut_live live).trans (congrArg _ (paperGone_stalls present hand stalls))
  · exact (paperOut_live live).trans (congrArg _ (paperGone_stalled present stalled))
  · exact (paperOut_live live).trans (congrArg _ (paperGone_passes present passes))
  · exact (paperIn_live live).trans (congrArg _ (paperBack_of_present present))
  · exact (paperIn_live live).trans (congrArg _ (paperBack_of_out gone))

/-! ## The rows of a label (R140) -/

theorem strobeEnd_eq (p : Printer) : p.strobeEnd =
    if p.state = .printing ∧ p.strobing = true then
      { p with strobing := false, stepping := true, rows := p.rows + 1, transferring := decide (p.rows < 55) }
    else p := by
  have more : decide (p.rows + 1 < Config.labelRows) = decide (p.rows < 55) := decide_eq_decide.mpr Nat.succ_lt_succ_iff
  simp only [Printer.strobeEnd, Bool.and_eq_true, beq_iff_eq, more]

/-- R140: the next row's strobe waits for the paper step that is still under way. -/
theorem transferred_eq (row : BitVec 320) (p : Printer) : p.transferred row =
    if p.state = .printing ∧ p.transferring = true then
      if p.stepping = true then { p with transferring := false, shift := row }
      else { p with transferring := false, shift := row, latch := row, strobing := true }
    else p := by
  simp only [Printer.transferred, Bool.and_eq_true, beq_iff_eq, Printer.strobeIfReady]
  cases p.stepping <;> rfl

/-- R140: the next row's strobe waits for the transfer that is still under way, and after the last row there is none. -/
theorem stepped_eq (p : Printer) : p.stepped =
    if p.state = .printing ∧ p.stepping = true then
      if 56 ≤ p.rows then
        { p with state := .presenting, rows := 0, transferring := false, strobing := false, stepping := false }
      else if p.transferring = true then { p with stepping := false }
      else { p with stepping := false, latch := p.shift, strobing := true }
    else p := by
  simp only [Printer.stepped, Bool.and_eq_true, beq_iff_eq, Printer.strobeIfReady]
  cases p.transferring <;> rfl

/-! ## Presenting (R143) -/

theorem presentRow_of_not_presenting {s : State} (other : s.printer.state ≠ .presenting) : s.presentRow = s := by
  unfold State.presentRow
  split
  · contradiction
  · rfl

theorem presentRow_of_presenting {s : State} {h : LabelHand} (presenting : s.printer.state = .presenting)
    (hand : s.printer.hand = some h) : s.presentRow =
      if 24 ≤ s.printer.rows + 1 then s.completeLabel h else s.withPrinter fun p => { p with rows := p.rows + 1 } := by
  rw [State.presentRow, presenting, hand]
  rfl

theorem presentRowStep_live {s : State} (live : s.live = true) : exec .presentRowStep s = .next s.presentRow :=
  whenLive_of_live live _

/-- R143: a label is complete with the row step that makes the row counter 24. -/
theorem labelComplete_live {s : State} (live : s.live = true) :
    exec .labelComplete s = .next (if s.printer.rows + 1 = 24 then s.presentRow else s) := by
  refine (whenLive_of_live live _).trans ?_
  simp only [beq_iff_eq]
  rfl

/-- R143: both events of the 24th row step complete the label in hand. -/
theorem lastRow_completes {s : State} {h : LabelHand} (live : s.live = true) (presenting : s.printer.state = .presenting)
    (hand : s.printer.hand = some h) (last : s.printer.rows = 23) :
    exec .presentRowStep s = .next (s.completeLabel h) ∧ exec .labelComplete s = .next (s.completeLabel h) := by
  rw [presentRowStep_live live, labelComplete_live live, presentRow_of_presenting presenting hand, last]
  exact ⟨rfl, rfl⟩

/-! ## The completion of a label (R143) -/

@[simp] theorem raise_printer (n : Notice) (s : State) : (s.raise n).printer = s.printer := by rw [State.raise_eq]

theorem finalCheck_printer (n : Nat) (s : State) : (s.finalCheck n).printer = s.printer := by
  unfold State.finalCheck
  split
  · split
    · split
      · split
        · simp [State.writeMinimum, State.raiseSettle]
        · rfl
      · simp
    · rfl
  · rfl

theorem settleItem_printer (o : Order) (it : Item) (s : State) : (s.settleItem o it).printer = s.printer := by
  simp only [State.settleItem, finalCheck_printer, State.settleRecord, State.raiseSettle]
  split <;> simp

/-- R157, R158: the Charge Unit's look leaves the Label Print Channel alone. -/
@[simp] theorem lookItem_printer (o i : Nat) (s : State) : (s.lookItem o i).printer = s.printer := by
  unfold State.lookItem
  split
  · rfl
  · split
    · rfl
    · split
      · split
        · exact settleItem_printer _ _ s
        · rfl
      · rfl

@[simp] theorem checkRoll_printer (n : Nat) (s : State) : (s.checkRoll n).printer = s.printer := by
  unfold State.checkRoll
  split
  · split
    · simp [State.changeRoll]
    · rfl
  · rfl

/-- R143: the channel with no label in hand. -/
def handCleared (p : Printer) : Printer :=
  { p with hand := none, state := .idle, strobe := none, transferring := false, strobing := false, stepping := false }

/-- R143, R146: what the LABEL notice reports of a label that no other follows. -/
def completionEvent : LabelKind → LabelEvent
  | .queue => .empty
  | .rprt => .rprt

/-- R143: after a completion the label at the head of the queue is started, or the notice is raised. -/
def startNext (roll : Nat) (e : LabelEvent) (queue : List (Nat × Nat)) (s : State) : State :=
  match queue with
  | (a, b) :: _ => s.startLabel { roll := a, frame := b, kind := .queue }
  | [] => s.raise (.label roll e)

theorem afterLabel_eq {h : LabelHand} {k : LabelKind} {s : State} {queue : List (Nat × Nat)} (kind : h.kind = k)
    (q : s.printer.queue = queue) :
    s.afterLabel h = startNext h.roll (completionEvent k) queue (s.withPrinter handCleared) := by
  have after : (s.withPrinter handCleared).printer.queue = queue := q
  have started : (s.withPrinter handCleared).startHead = match (s.withPrinter handCleared).printer.queue with
    | (a, b) :: _ => (s.withPrinter handCleared).startLabel { roll := a, frame := b, kind := .queue }
    | [] => s.withPrinter handCleared := rfl
  rw [after] at started
  have next : s.afterLabel h = match (s.withPrinter handCleared).printer.queue with
    | _ :: _ => (s.withPrinter handCleared).startHead
    | [] => (s.withPrinter handCleared).raise (.label h.roll (completionEvent h.kind)) := rfl
  rw [next, after, started, kind]
  cases queue <;> rfl

theorem completeLabel_rprt {h : LabelHand} (rprt : h.kind = .rprt) (s : State) : s.completeLabel h =
    startNext h.roll .rprt s.printer.queue (s.withPrinter fun p => { handCleared p with rows := 24 }) := by
  rw [State.completeLabel, rprt]
  exact afterLabel_eq (k := .rprt) rprt rfl

/-- R143: the printed label leaves the head of the queue, its item counts it, and its frame is PRINTED. -/
def printed (f : Frame) (r : ItemRef) (s : State) : State :=
  ((s.withPrinter fun p => { p with rows := 24, queue := p.queue.tail }).updateItem r.order r.item fun it =>
    { it with labels := it.labels + 1 }).setFrame { f with label := .printed }

theorem markPrinted_eq {f : Frame} {r : ItemRef} (ref : f.ref = some r) (s : State) :
    (s.withPrinter fun p => { p with rows := Config.presentRows }).markPrinted f = printed f r s := by
  rw [State.markPrinted, printed, ref]
  rfl

theorem completeLabel_queue {h : LabelHand} {f : Frame} {r : ItemRef} {s : State} (kind : h.kind = .queue)
    (found : s.frameAt h.roll h.frame = some f) (ref : f.ref = some r) : s.completeLabel h =
    startNext h.roll .empty s.printer.queue.tail
      ((((printed f r s).lookItem r.order r.item).checkRoll f.roll).withPrinter handCleared) := by
  have at24 : (s.withPrinter fun p => { p with rows := Config.presentRows }).frameAt h.roll h.frame = some f := found
  rw [State.completeLabel, kind]
  simp only [at24, State.printedFrame, ref, markPrinted_eq ref]
  refine afterLabel_eq (k := .queue) kind ?_
  rw [checkRoll_printer, lookItem_printer]
  rfl

/-- Settles O50: each row by the parts of its printing still under way, and the 24th row step by the kind of the label in hand. -/
theorem printedRowsAndCompletion : Obligations.PrintedRowsAndCompletion := by
  intro s live p row
  refine ⟨?_, ?_, ?_, fun other => ?_, fun h presenting hand before => ?_, ?_, ?_⟩
  · exact whenLive_printer_if live (strobeEnd_eq p)
  · have taken : exec .rowTransferComplete s = whenLive (State.withPrinter (Printer.transferred row)) s := rfl
    rw [taken, whenLive_printer_if live (transferred_eq row p)]
    refine congrArg Host.Outcome.next (ite_congr rfl (fun _ => ?_) fun _ => rfl)
    split <;> rfl
  · have taken : exec .printPaperStep s = whenLive (State.withPrinter Printer.stepped) s := rfl
    rw [taken, whenLive_printer_if live (stepped_eq p)]
    refine congrArg Host.Outcome.next (ite_congr rfl (fun _ => ?_) fun _ => rfl)
    by_cases last : 56 ≤ p.rows
    · rw [if_pos last, if_pos last]
    · rw [if_neg last, if_neg last]
      split <;> rfl
  · rw [presentRowStep_live live, labelComplete_live live, presentRow_of_not_presenting other, ite_self]
    exact ⟨rfl, rfl⟩
  · have more : p.rows + 1 < 24 := Nat.succ_lt_succ before
    rw [presentRowStep_live live, labelComplete_live live, presentRow_of_presenting presenting hand,
      if_neg (Nat.not_le.mpr more), if_neg (Nat.ne_of_lt more)]
    exact ⟨rfl, rfl⟩
  · intro h f r presenting hand last kind found ref
    have done := lastRow_completes live presenting hand last
    rw [completeLabel_queue kind found ref] at done
    exact done
  · intro h presenting hand last kind
    have done := lastRow_completes live presenting hand last
    rw [completeLabel_rprt kind] at done
    exact done

/-! ## The start of a label (R139) -/

/-- R139: the channel in the state `c` with the label `h` newly in hand. -/
def inHandAt (h : LabelHand) (c : ChanState) (p : Printer) : Printer :=
  { p with hand := some h, state := c, strobe := none, transferring := false, strobing := false, stepping := false }

theorem startLabel_eq (h : LabelHand) (s : State) : s.startLabel h =
    if s.printer.paperOut = true then (s.withPrinter (inHandAt h (.stalled .paper))).raise (.label h.roll .paper)
    else s.withPrinter fun p => { inHandAt h .feeding p with rows := 0, paperWait := false } := rfl

/-! ## The look of a PRNT (R137, R138) -/

/-- R138: a frame at which a look ends, undecided. -/
def undecided (f : Frame) : Bool := f.state == .exposed && f.selection == some .undecided

/-- R137: a frame that is due for a label. -/
def due (f : Frame) : Bool := f.state == .exposed && f.selection == some .kept && f.label == .none

theorem lookFrames_undecided {f : Frame} (h : undecided f = true) (l : List Frame) (room : Nat) :
    lookFrames (f :: l) room = ([], .undecided f.number) := by
  cases room <;> exact if_pos h

theorem lookFrames_full {f : Frame} (decided : ¬undecided f = true) (h : due f = true) (l : List Frame) :
    lookFrames (f :: l) 0 = ([], .full f.number) :=
  (if_neg decided).trans (if_pos h)

theorem lookFrames_due {f : Frame} (decided : ¬undecided f = true) (h : due f = true) (l : List Frame) (n : Nat) :
    lookFrames (f :: l) (n + 1) = (f.number :: (lookFrames l n).1, (lookFrames l n).2) :=
  (if_neg decided).trans (if_pos h)

theorem lookFrames_passes {f : Frame} (decided : ¬undecided f = true) (h : ¬due f = true) (l : List Frame) (room : Nat) :
    lookFrames (f :: l) room = lookFrames l room := by
  cases room <;> exact (if_neg decided).trans (if_neg h)

/-- R138: the frames before the first undecided one. -/
def decidedFrames (l : List Frame) : List Frame := l.takeWhile fun f => !undecided f

/-- R137, R138: the frames due for a label before the first undecided frame. -/
def dueFrames (l : List Frame) : List Frame := (decidedFrames l).filter due

/-- R138: why a look ends: no room for a frame that is due, else the first undecided frame, else the end of the roll. -/
def lookEnd (l : List Frame) (room : Nat) : LookEnd :=
  match (dueFrames l)[room]?, l[(decidedFrames l).length]? with
  | some f, _ => .full f.number
  | none, some f => .undecided f.number
  | none, none => .finished

theorem decidedFrames_cons {f : Frame} (decided : ¬undecided f = true) (l : List Frame) :
    decidedFrames (f :: l) = f :: decidedFrames l := by simp [decidedFrames, decided]

/-- R138: a look goes through the frames in turn and takes those due while there is room. -/
theorem lookFrames_eq (l : List Frame) (room : Nat) :
    lookFrames l room = (((dueFrames l).take room).map Frame.number, lookEnd l room) := by
  induction l generalizing room with
  | nil => cases room <;> rfl
  | cons f l ih =>
    by_cases stop : undecided f = true
    · simp [lookFrames_undecided stop, lookEnd, dueFrames, decidedFrames, stop]
    by_cases take : due f = true
    · have next : dueFrames (f :: l) = f :: dueFrames l := by simp [dueFrames, decidedFrames_cons stop, take]
      cases room with
      | zero => simp [lookFrames_full stop take, lookEnd, next]
      | succ n => simp [lookFrames_due stop take, lookEnd, next, decidedFrames_cons stop, ih]
    · have next : dueFrames (f :: l) = dueFrames l := by simp [dueFrames, decidedFrames_cons stop, take]
      simp [lookFrames_passes stop take, lookEnd, next, decidedFrames_cons stop, ih]

/-! ## PRNT (R138, R139) -/

theorem otherRoll_eq (n : Nat) (p : Printer) : p.otherRoll n = p.queue.head?.any fun q => q.1 != n := by
  unfold Printer.otherRoll
  cases p.queue <;> rfl

theorem lookFrom_eq (n : Nat) (s : State) : s.lookFrom n = s.store.frames.filter fun f =>
    f.roll == n && s.printer.queue.getLast?.all fun q => decide (q.2 < f.number) := by
  unfold State.lookFrom State.rollFrames
  cases s.printer.queue.getLast? with
  | none => simp
  | some q => simp [List.filter_filter, Bool.and_comm]

theorem lookFrom_reserveTx (n : Nat) (s : State) : s.reserveTx.lookFrom n = s.lookFrom n := by
  rw [lookFrom_eq, lookFrom_eq, State.reserveTx_store, State.reserveTx_printer]

/-- R138: the reply names the cause that ended the look, with the frame where it stopped. -/
theorem lookFields_lookEnd (n : Nat) (l : List Frame) (room : Nat) : lookFields n (lookEnd l room) =
    match (dueFrames l)[room]?, l[(decidedFrames l).length]? with
    | some f, _ => [.word ['F', 'U', 'L', 'L'], .frame n f.number]
    | none, some f => [.word ['U', 'N', 'D', 'E', 'C', 'I', 'D', 'E', 'D'], .frame n f.number]
    | none, none => [.word ['E', 'N', 'D']] := by
  unfold lookEnd
  cases (dueFrames l)[room]? with
  | some f => rfl
  | none => cases l[(decidedFrames l).length]? <;> rfl

theorem startIfIdle_stays (s : State) : Stays s s.startIfIdle := by
  unfold State.startIfIdle
  split
  · exact State.startHead_stays s
  · exact Stays.refl s

/-- R139: the first of the frames that join an empty queue is started when the channel is IDLE. -/
def startFirst (n : Nat) (l : List Nat) (was : Printer) (t : State) : State :=
  match l.head? with
  | some m =>
    if was.queue = [] ∧ was.state = .idle then t.startLabel { roll := n, frame := m, kind := .queue } else t
  | none => t

theorem startIfIdle_enqueue (n : Nat) (l : List Nat) (s : State) :
    (if s.printer.queue.isEmpty then (s.enqueue n l).startIfIdle else s.enqueue n l) =
      startFirst n l s.printer (s.enqueue n l) := by
  have queue : (s.enqueue n l).printer.queue = s.printer.queue ++ l.map fun m => (n, m) := rfl
  have state : (s.enqueue n l).printer.state = s.printer.state := rfl
  generalize s.enqueue n l = t at queue state
  rw [State.startIfIdle, State.startHead, queue, state, startFirst]
  cases before : s.printer.queue with
  | nil => cases l <;> simp
  | cons x rest => cases l <;> simp

/-- R138: the frames that a look takes with room for `room` more. -/
def takenFrames (l : List Frame) (room : Nat) : List Nat := ((dueFrames l).take room).map Frame.number

/-- R138: what PRNT makes of a look at the frames `l` of the roll `n`, with room for `room` more labels. -/
def looked (n : Nat) (l : List Frame) (room : Nat) (s : State) : State × Answer :=
  (startFirst n (takenFrames l room) s.printer (s.enqueue n (takenFrames l room)),
    ok ([numF n, numF (takenFrames l room).length] ++ lookFields n (lookEnd l room)))

theorem ownPrnt_looks {roll : Int} {s : State} {r : Roll} (inside : inRange 1 65535 roll = true)
    (found : s.rollNumbered roll.toNat = some r) (same : ¬s.printer.otherRoll r.number = true) :
    ownPrnt roll s = looked r.number (s.lookFrom r.number) (64 - s.printer.queue.length) s := by
  simp only [ownPrnt, inside, found, same, lookFrames_eq, startIfIdle_enqueue]
  rfl

theorem looked_busy (n : Nat) (l : List Frame) (room : Nat) {s : State} (busy : s.outbox.tx ≠ .idle) :
    (looked n l room s).1.outbox.tx ≠ .idle := by
  have queued : (s.enqueue n (takenFrames l room)).outbox.tx ≠ .idle := busy
  rw [looked, ← startIfIdle_enqueue]
  dsimp only
  split
  · rw [(startIfIdle_stays _).tx queued]
    exact busy
  · exact busy

/-- R138: PRNT of a roll that is held and that no other roll's labels stand before. -/
theorem prnt_looks {roll : Int} {s : State} {r : Roll} (c : s.canTake = true) (inside : inRange 1 65535 roll = true)
    (found : s.rollNumbered roll.toNat = some r) (same : ¬s.printer.otherRoll r.number = true) :
    exec (.prnt roll) s = .next (
      let l := s.lookFrom r.number
      let room := 64 - s.printer.queue.length
      (startFirst r.number (takenFrames l room) s.printer (s.reserveTx.enqueue r.number (takenFrames l room))).replied .prnt
        (ok ([numF r.number, numF (takenFrames l room).length] ++ lookFields r.number (lookEnd l room)))) := by
  have own := ownPrnt_looks (s := s.reserveTx) inside (by rw [rollNumbered_reserveTx, found])
    (by rwa [State.reserveTx_printer])
  have taken := request_taken .prnt (ownPrnt roll) s c (by rw [own]; exact looked_busy _ _ _ (State.reserveTx_busy s))
  rwa [own, looked, lookFrom_reserveTx, State.reserveTx_printer] at taken

/-- R170: a PRNT that is refused. -/
theorem prnt_refused {roll : Int} {s : State} {a : Answer} (c : s.canTake = true)
    (own : ownPrnt roll s.reserveTx = (s.reserveTx, a)) : exec (.prnt roll) s = .next (s.replied .prnt a) :=
  request_answered .prnt (ownPrnt roll) s s a c own

/-- Settles O47: the look as the list of the frames due before the first undecided one, cut at the room in the queue. -/
theorem prntQueuesDueFrames : Obligations.PrntQueuesDueFrames := by
  refine ⟨fun roll s c => ?_, startLabel_eq⟩
  simp only [← otherRoll_eq]
  by_cases range : 1 ≤ roll ∧ roll ≤ 65535
  · have inside := (inRange_iff 1 65535 roll).mpr range
    rw [if_neg (not_not_intro range)]
    cases found : s.rollNumbered roll.toNat with
    | none => exact prnt_refused c (by simp [ownPrnt, inside, found])
    | some r =>
      dsimp only
      by_cases other : s.printer.otherRoll r.number = true
      · rw [if_pos other]
        exact prnt_refused c (by simp [ownPrnt, inside, found, other])
      · rw [if_neg other, prnt_looks c inside found other]
        simp only [lookFields_lookEnd, lookFrom_eq, State.enqueue, State.setLabels, State.withPrinter, State.reserveTx_store,
          State.reserveTx_printer]
        rfl
  · have outside : inRange 1 65535 roll = false := by rw [← Bool.not_eq_true, inRange_iff]; exact range
    rw [if_pos range]
    exact prnt_refused c (by simp [ownPrnt, outside])

/-! ## PSTP (R145) -/

/-- R143, R145: how many frames at the head of the queue a label in hand is printed from. -/
def headInHand (h : LabelHand) : Nat := if h.kind == .queue then 1 else 0

theorem keptQueue_eq {p : Printer} {h : LabelHand} (hand : p.hand = some h) : p.keptQueue = p.queue.take (headInHand h) := by
  simp only [Printer.keptQueue, hand, headInHand]
  cases h.kind <;> rfl

theorem drop_keptQueue {p : Printer} {h : LabelHand} (hand : p.hand = some h) :
    p.queue.drop p.keptQueue.length = p.queue.drop (headInHand h) := by
  rw [keptQueue_eq hand, List.length_take]
  simp

theorem stopQueue_eq {s : State} {h : LabelHand} (hand : s.printer.hand = some h) : s.stopQueue =
    (s.unqueue (s.printer.queue.drop (headInHand h))).withPrinter fun p => { p with queue := p.queue.take (headInHand h) } := by
  simp only [State.stopQueue, drop_keptQueue hand]
  rw [keptQueue_eq hand]
  rfl

theorem stopQueue_reserveTx (s : State) : s.reserveTx.stopQueue = s.stopQueue.reserveTx :=
  reserveTx_comm State.stopQueue (fun _ _ => rfl) s

/-- R145: PSTP while a label is being fed, printed or presented. -/
theorem pstp_running {s : State} {h : LabelHand} (c : s.canTake = true) (hand : s.printer.hand = some h)
    (running : s.printer.state = .feeding ∨ s.printer.state = .printing ∨ s.printer.state = .presenting) :
    exec .pstp s = .next (s.stopQueue.replied .pstp
      (ok [numF (s.printer.queue.length - headInHand h), .frame h.roll h.frame])) := by
  have removed : s.printer.queue.length - s.printer.keptQueue.length = s.printer.queue.length - headInHand h := by
    rw [← List.length_drop, drop_keptQueue hand, List.length_drop]
  refine request_answered .pstp ownPstp s _ _ c ?_
  unfold ownPstp
  rw [stopQueue_reserveTx, State.reserveTx_printer, hand, removed]
  obtain state | state | state := running <;> rw [state] <;> rfl

theorem dropLabel_stays (h : LabelHand) (s : State) : Stays s (s.dropLabel h) :=
  ((State.unqueue_stays _ s).trans (withPrinter_stays _ _ (Nat.zero_le _))).trans (State.raiseLabel_stays _ _ _)

theorem ownPstp_stalled {s : State} {h : LabelHand} {cause : StallCause} (stalled : s.printer.state = .stalled cause)
    (hand : s.printer.hand = some h) : ownPstp s = (s.dropLabel h, ok [numF s.printer.queue.length, .empty]) := by
  unfold ownPstp
  rw [stalled, hand]

theorem pstp_stalled {s : State} {h : LabelHand} {cause : StallCause} (c : s.canTake = true)
    (stalled : s.printer.state = .stalled cause) (hand : s.printer.hand = some h) :
    exec .pstp s = .next ((s.reserveTx.dropLabel h).replied .pstp (ok [numF s.printer.queue.length, .empty])) := by
  have own := ownPstp_stalled (s := s.reserveTx) (by rw [State.reserveTx_printer, stalled])
    (by rw [State.reserveTx_printer, hand])
  have taken := request_stays .pstp ownPstp s c (by rw [own]; exact dropLabel_stays h _)
  rw [own, State.reserveTx_printer] at taken
  exact taken

/-! ## RPRT (R146) -/

theorem ownRprt_stays (roll frame : Int) (s : State) : Stays s (ownRprt roll frame s).1 := by
  unfold ownRprt
  split
  · exact Stays.refl s
  split
  · exact Stays.refl s
  split
  · exact Stays.refl s
  split
  · exact Stays.refl s
  · exact State.startLabel_stays _ s

theorem rprt_taken (roll frame : Int) (s : State) (c : s.canTake = true) : exec (.rprt roll frame) s =
    .next ((ownRprt roll frame s.reserveTx).1.replied .rprt (ownRprt roll frame s.reserveTx).2) :=
  request_stays .rprt (ownRprt roll frame) s c (ownRprt_stays roll frame _)

theorem frameRange_iff (roll frame : Int) :
    (!frameRange roll frame) = true ↔ ¬(1 ≤ roll ∧ roll ≤ 65535 ∧ 1 ≤ frame ∧ frame ≤ 1000) := by
  rw [Bool.not_eq_true', ← Bool.not_eq_true, frameRange, Bool.and_eq_true, inRange_iff, inRange_iff, and_assoc]

/-- R146: only a KEPT frame whose label is PRINTED is printed again. -/
theorem unprinted_iff (f : Frame) : (f.selection != some .kept || f.label != .printed) = true ↔
    ¬(f.selection = some .kept ∧ f.label = .printed) := by
  rw [Decidable.not_and_iff_not_or_not, Bool.or_eq_true, bne_iff_ne, bne_iff_ne]

@[simp] theorem namedFrame_reserveTx (roll frame : Int) (s : State) :
    s.reserveTx.namedFrame roll frame = s.namedFrame roll frame := by simp [State.namedFrame]

/-! ## DENS and LQUE (R142, R147) -/

theorem densityOk_iff (v : Int) : densityOk v = true ↔ v = 1 ∨ v = 2 ∨ v = 4 ∨ v = 8 := by
  simp [densityOk, or_assoc]

theorem setDensity_reserveTx (d : Nat) (s : State) : s.reserveTx.setDensity d = (s.setDensity d).reserveTx :=
  reserveTx_comm (State.setDensity d) (fun _ _ => rfl) s

theorem densWrite_taken (value : Int) (s : State) (c : s.canTake = true) :
    exec (.densWrite value) s = .next ((ownDensWrite value s).1.replied .dens (ownDensWrite value s).2) := by
  refine request_answered .dens (ownDensWrite value) s _ _ c ?_
  unfold ownDensWrite
  split
  · rw [setDensity_reserveTx]
  · rw [State.reserveTx_store]

theorem lque_taken (s : State) (c : s.canTake = true) : exec .lque s = .next (s.replied .lque (ownLque s)) := by
  have same : ownLque s.reserveTx = ownLque s := by simp [ownLque]
  rw [← same]
  exact query_taken .lque ownLque s c

/-- Settles O48: PSTP by the state of the channel, RPRT by its refusals in turn, and the density and the queue as they stand. -/
theorem labelChannelRequests : Obligations.LabelChannelRequests := by
  intro roll frame value s c cleared inHand
  have head : ∀ {h : LabelHand}, s.printer.hand = some h → inHand = headInHand h := fun hand => by
    simp only [inHand, hand]
    rfl
  refine ⟨fun idle => ?_, fun h running hand => ?_, fun h cause stalled hand => ?_, ?_, ?_, ?_, ?_⟩
  · refine request_answered .pstp ownPstp s s _ c ?_
    unfold ownPstp
    rw [State.reserveTx_printer, idle]
  · rw [pstp_running c hand running, stopQueue_eq hand, head hand]
    rfl
  · rw [pstp_stalled c stalled hand, State.dropLabel, State.reserveTx_printer]
    simp only [State.unqueue, State.reserveTx_store, State.withPrinter, State.reserveTx_printer]
    rfl
  · rw [rprt_taken roll frame s c]
    simp only [ownRprt, frameRange_iff]
    by_cases range : 1 ≤ roll ∧ roll ≤ 65535 ∧ 1 ≤ frame ∧ frame ≤ 1000
    · rw [if_neg (not_not_intro range), if_neg (not_not_intro range), namedFrame_reserveTx, State.namedFrame]
      cases s.rollNumbered roll.toNat with
      | none => simp only [State.replied_reserve]
      | some r =>
        by_cases held : r.frameCount < frame.toNat
        · simp only [held, if_true, State.replied_reserve]
        simp only [held, if_false]
        cases s.frameAt roll.toNat frame.toNat with
        | none => simp only [State.replied_reserve]
        | some f =>
          have busy : (s.reserveTx.printer.state != .idle) = true ↔ s.printer.state ≠ .idle := by simp
          simp only [unprinted_iff, busy, startLabel_eq]
          split
          · rw [State.replied_reserve]
          split
          · rw [State.replied_reserve]
          · rw [State.reserveTx_printer]
            simp only [State.withPrinter, State.reserveTx_printer]
            rfl
    · simp only [range, not_false_eq_true, if_true, State.replied_reserve]
  · rw [densWrite_taken value s c, ownDensWrite]
    simp only [densityOk_iff]
    split <;> rfl
  · refine (query_taken .dens ownDensQuery s c).trans ?_
    rw [ownDensQuery, State.reserveTx_store]
  · rw [lque_taken s c, ownLque]
    cases s.printer.state <;> cases s.printer.hand <;> rfl

end Sys2Proof.PrintLaws

/-! PROOFS. The statements on chapter 8, Charges and accounts: RATE and TIER, the settlement of an item and the final check of
an order, and TAKE with the working of the settlement waiting list. -/

namespace Sys2Proof.ChargeLaws

open Sys2Proof.Machine Sys2Proof.ExposureLaws Sys2Proof.OrderLaws Sys2Proof.PrintLaws

/-! ## RATE (R150) -/

theorem clampRate_eq (v : Int) : clampRate v = (nearest 0 65535 v).toNat := clampNat_eq_nearest (by omega) v

theorem setRate_reserveTx (n : Nat) (c : RateClass) (s : State) : s.reserveTx.setRate n c = (s.setRate n c).reserveTx :=
  reserveTx_comm (State.setRate n c) (fun _ _ => rfl) s

theorem rateWrite_taken (cls frame reject spoil label minimum rush : Int) (s : State) (c : s.canTake = true) :
    exec (.rateWrite cls frame reject spoil label minimum rush) s = .next (
      (ownRateWrite cls frame reject spoil label minimum rush s).1.replied .rate
        (ownRateWrite cls frame reject spoil label minimum rush s).2) := by
  refine request_answered .rate _ s _ _ c ?_
  unfold ownRateWrite
  split
  · rfl
  · dsimp only
    rw [setRate_reserveTx]

/-- R150: a class number in its range finds its class. -/
theorem rateClass_eq {n : Int} (inside : 1 ≤ n ∧ n ≤ 8) (s : State) :
    s.rateClass n.toNat = s.store.rates[n.toNat - 1]'(by omega) := by
  simp [State.rateClass, show n.toNat - 1 < 8 by omega]

theorem rateQuery_taken (asked : Option Int) (s : State) (c : s.canTake = true) :
    exec (.rateQuery asked) s = .next (s.replied .rate (ownRateQuery asked s)) := by
  have same : ownRateQuery asked s.reserveTx = ownRateQuery asked s := by simp [ownRateQuery, State.rateClass]
  rw [← same]
  exact query_taken .rate (ownRateQuery asked) s c

/-! ## TIER (R151) -/

theorem tierOf_eq (t : TierArg) : tierOf t =
    { low := (nearest 0 65535 t.low).toNat, high := (nearest 0 65535 t.high).toNat
      discount := (nearest 0 1000 t.discount).toNat } := by
  simp [tierOf, clampNat_eq_nearest]

theorem setTiers_reserveTx (l : List Tier) (s : State) : s.reserveTx.setTiers l = (s.setTiers l).reserveTx :=
  reserveTx_comm (State.setTiers l) (fun _ _ => rfl) s

/-- R151, R173: the report of the tier figures, three fields for each entry. -/
theorem tierClamps_report (k : Nat) (l : List TierArg) :
    clampReport (tierClamps k l) = (l.zipIdx k).flatMap fun p =>
      clampedAt (3 * p.2 + 1) 0 65535 p.1.low ++ clampedAt (3 * p.2 + 2) 0 65535 p.1.high ++
        clampedAt (3 * p.2 + 3) 0 1000 p.1.discount := by
  induction l generalizing k with
  | nil => rfl
  | cons t rest ih => simp [tierClamps, clampReport_cons, ih]

theorem tierWrite_taken (entries : List TierArg) (s : State) (c : s.canTake = true) :
    exec (.tierWrite entries) s =
      .next ((ownTierWrite entries s).1.replied .tier (ownTierWrite entries s).2) := by
  refine request_answered .tier _ s _ _ c ?_
  unfold ownTierWrite
  split
  · rfl
  split
  · rfl
  · rw [setTiers_reserveTx]

theorem tierClear_taken (s : State) (c : s.canTake = true) :
    exec .tierClear s = .next ((s.setTiers []).replied .tier (ok [])) :=
  request_answered .tier ownTierClear s _ _ c (by rw [ownTierClear, setTiers_reserveTx])

/-- Settles O51: each form's refusals in their order, and the class or the table that its clamped figures replace. -/
theorem rateAndTierRequests : Obligations.RateAndTierRequests := by
  intro cls frame reject spoil label minimum rush asked entries s c listed near
  refine ⟨?_, ?_, ?_, tierClear_taken s c, ?_⟩
  · rw [rateWrite_taken _ _ _ _ _ _ _ s c, ownRateWrite]
    simp only [← inRange_iff]
    cases inRange 1 8 cls with
    | false => rfl
    | true =>
      simp only [clampRate_eq, clampNat_eq_nearest (show 0 ≤ 999999 by omega), clampNat_eq_nearest (show 0 ≤ 1000 by omega),
        clampReport_cons, clampReport_nil, List.append_nil, ← List.append_assoc]
      rfl
  · rw [rateQuery_taken asked s c]
    cases asked with
    | none => rfl
    | some n =>
      simp only [ownRateQuery]
      by_cases inside : 1 ≤ n ∧ n ≤ 8
      · rw [dif_pos inside, (inRange_iff 1 8 n).mpr inside, rateClass_eq inside]
        rfl
      · rw [dif_neg inside, Bool.eq_false_iff.mpr (mt (inRange_iff 1 8 n).mp inside)]
        rfl
  · have figures : tierOf = fun t =>
        { low := near 65535 t.low, high := near 65535 t.high, discount := near 1000 t.discount } :=
      funext tierOf_eq
    have count : (entries.isEmpty || decide (8 < entries.length)) = true ↔ entries.length = 0 ∨ 8 < entries.length := by
      simp [List.isEmpty_iff]
    rw [tierWrite_taken entries s c, ownTierWrite]
    simp only [count, List.findIdx?_map, Function.comp_def, figures, tierClamps_report]
    split
    · rfl
    · cases entries.findIdx? fun t => near 65535 t.high < near 65535 t.low <;> rfl
  · refine (query_taken .tier ownTierList s c).trans ?_
    rw [ownTierList, State.reserveTx_store]

/-! ## Settleable items (R157) -/

theorem ofItem_eq (o i : Nat) (f : Frame) : f.ofItem o i = f.ref.any fun q => q.order == o && q.item == i := by
  unfold Frame.ofItem
  cases f.ref <;> rfl

theorem ofItem_iff (o i : Nat) (f : Frame) : f.ofItem o i = true ↔ ∃ q, f.ref = some q ∧ q.order = o ∧ q.item = i := by
  simp [ofItem_eq, Option.any_eq_true]

theorem chargeable_iff (f : Frame) : f.chargeable = true ↔
    (f.state = .exposed → f.selection = some .kept ∨ f.selection = some .rejected) ∧
      (f.selection = some .kept → f.label = .printed) := by
  simp [Frame.chargeable, Classical.or_iff_not_imp_left]

theorem shutterHolds_iff (o i : Nat) (s : State) : s.shutterHolds o i = true ↔
    ∃ c, s.shutter.held = some c ∧ c.ref.order = o ∧ c.ref.item = i := by
  unfold State.shutterHolds
  cases s.shutter.held <;> simp

/-- R157: an item is settleable when it has ended, its frames are decided and labelled and the Shutter Timer holds none of its
contexts. -/
theorem itemSettleable_iff (o : Nat) (it : Item) (s : State) : s.itemSettleable o it = true ↔
    (it.state = .done ∨ it.state = .cancelled) ∧
      (∀ f ∈ s.store.frames, ∀ q, f.ref = some q → q.order = o → q.item = it.number →
        (f.state = .exposed → f.selection = some .kept ∨ f.selection = some .rejected) ∧
        (f.selection = some .kept → f.label = .printed)) ∧
      (∀ c, s.shutter.held = some c → ¬(c.ref.order = o ∧ c.ref.item = it.number)) := by
  have frames (f : Frame) : (!f.ofItem o it.number || f.chargeable) = true ↔
      ∀ q, f.ref = some q → q.order = o → q.item = it.number → f.chargeable = true := by
    rw [Bool.or_eq_true, Bool.not_eq_true', ← Bool.not_eq_true, ← Decidable.imp_iff_not_or, ofItem_iff]
    exact ⟨fun h q ref order item => h ⟨q, ref, order, item⟩, fun h ⟨q, ref, order, item⟩ => h q ref order item⟩
  have shutter : (!s.shutterHolds o it.number) = true ↔
      ∀ c, s.shutter.held = some c → ¬(c.ref.order = o ∧ c.ref.item = it.number) := by
    rw [Bool.not_eq_true', ← Bool.not_eq_true, shutterHolds_iff]
    exact ⟨fun h c held item => h ⟨c, held, item⟩, fun h ⟨c, held, item⟩ => h c held item⟩
  simp only [State.itemSettleable, Bool.and_eq_true, Bool.or_eq_true, beq_iff_eq, List.all_eq_true, frames, shutter,
    chargeable_iff, and_assoc]

/-! ## The price of an item (R151, R158) -/

theorem tierDiscount_eq (tiers : List Tier) (period : Nat) : tierDiscount tiers period =
    ((tiers.find? fun t => t.low ≤ period && period ≤ t.high).map Tier.discount).getD 0 := by
  unfold tierDiscount
  cases tiers.find? fun t => t.low ≤ period && period ≤ t.high <;> rfl

theorem priceItem_eq (cls : OrderClass) (it : Item) (d : Nat) : priceItem cls it d =
    let r : Rates := it.rates.getD { frame := 0, reject := 0, spoil := 0, label := 0, rush := 0 }
    let base := it.kept * r.frame + it.rejected * r.reject + it.spoiled * r.spoil + it.labels * r.label
    let discounted := base - (base * d + 500) / 1000
    if cls = .rush then discounted + (discounted * r.rush + 500) / 1000 else discounted := by
  cases cls <;> rfl

/-- R159: an item needs an entry unless its kept, rejected and spoiled counters are all 0. -/
theorem needsEntry_eq (it : Item) : it.needsEntry = decide ¬(it.kept = 0 ∧ it.rejected = 0 ∧ it.spoiled = 0) := by
  simp [Item.needsEntry, Bool.beq_eq_decide_eq, Bool.or_assoc]

/-! ## What a settlement writes (R152, R159) -/

/-- R152: the total is held at its top, and the mark is set when the sum or the amount itself was cut. -/
theorem charge_eq (amount : Nat) (cut : Bool) (a : Account) : a.charge amount cut =
    { a with
      charged := min (a.charged + amount) 2147483647
      saturated := a.saturated || decide (2147483647 < a.charged + amount) || cut } := by
  have top : Config.maxMoney = 2147483647 := rfl
  unfold Account.charge
  rw [top]
  split
  · next above => rw [Nat.min_eq_right (Nat.le_of_lt above), decide_eq_true above]; simp
  · next within =>
    rw [Nat.min_eq_left (Nat.not_lt.mp within), decide_eq_false (show ¬2147483647 < a.charged + amount from within)]
    simp

theorem markCharged_eq (o i : Nat) (s : State) : s.markCharged o i = { s with
    store :=
      { s.store with
        frames := s.store.frames.map fun f =>
          if f.ref.any fun q => q.order == o && q.item == i then { f with charged := true } else f } } := by
  simp only [State.markCharged, ofItem_eq]

/-- R159: an account after the settlement of an item for an amount; `cut` says that the amount was cut to the top. -/
def settledAccount (it : Item) (amount : Nat) (cut : Bool) (a : Account) : Account :=
  let b := a.charge amount cut
  { b with committed := b.committed - it.estimate, period := min 65535 (b.period + (it.kept + it.rejected)) }

/-- R159: an order after the settlement of one of its items for an amount. -/
def settledOrder (it : Item) (amount : Nat) (q : Order) : Order :=
  { q with
    items := q.items.map fun i => if i.number = it.number then { i with state := .settled } else i
    running := q.running + amount }

/-- R159: the records that the settlement of an item rewrites, beside the journal. -/
def rewriteRecords (o : Order) (it : Item) (amount : Nat) (cut : Bool) (s : State) : State :=
  ((s.updateAccount o.account (settledAccount it amount cut)).markCharged o.number it.number).updateOrder o.number
    (settledOrder it amount)

theorem settledAccount_eq (it : Item) (amount : Nat) (cut : Bool) (a : Account) : settledAccount it amount cut a =
    { a with
      charged := min (a.charged + amount) 2147483647
      saturated := a.saturated || decide (2147483647 < a.charged + amount) || cut
      committed := a.committed - it.estimate
      period := min 65535 (a.period + it.kept + it.rejected) } := by
  rw [settledAccount, charge_eq, Nat.add_assoc]

theorem rewriteRecords_eq (o : Order) (it : Item) (amount : Nat) (cut : Bool) (s : State) :
    rewriteRecords o it amount cut s =
      ({ s with
        store :=
          { s.store with
            accounts := s.store.accounts.map fun x => if x.number = o.account then settledAccount it amount cut x else x
            frames := s.store.frames.map fun f =>
              if f.ref.any fun q => q.order == o.number && q.item == it.number then { f with charged := true } else f } } :
        State).updateOrder o.number (settledOrder it amount) := by
  rw [rewriteRecords, markCharged_eq, updateAccount_eq]

/-- R159: a settlement writes its entry first, rewrites the records and raises its notice. -/
theorem settleRecord_eq (o : Order) (it : Item) {a : Account} {s : State} (held : s.account o.account = some a) :
    let exact := priceItem o.cls it (tierDiscount s.store.tiers a.period)
    let amount := min exact 2147483647
    let detail : ItemCharge :=
      { item := it.number, kept := it.kept, rejected := it.rejected, spoiled := it.spoiled, labels := it.labels }
    s.settleRecord o it =
      if it.needsEntry then
        (rewriteRecords o it amount (2147483647 < exact) (s.appendEntry o.account o.number (some detail) amount)).raise
          (.settle (s.store.journal.length + 1))
      else rewriteRecords o it amount (2147483647 < exact) s := by
  intro exact amount detail
  have entries : (rewriteRecords o it amount (2147483647 < exact)
      (s.appendEntry o.account o.number (some detail) amount)).store.journal.length = s.store.journal.length + 1 :=
    List.length_append
  rw [← entries]
  unfold State.settleRecord
  simp only [held, updateItem_eq, Option.map_some, Option.getD_some]
  cases it.needsEntry <;> rfl

/-! ## The final check of an order (R160) -/

theorem journalRoom_iff_not_full (s : State) : s.journalRoom = true ↔ ¬128 ≤ s.store.journal.length :=
  (State.journalRoom_iff s).trans Nat.not_le.symm

theorem minimumDue_of_paid {o : Order} (paid : ∀ m, o.minimum = some m → m ≤ o.running) : o.minimumDue = none := by
  unfold Order.minimumDue
  split
  · next m set => rw [if_neg (Nat.not_lt.mpr (paid m set))]
  · rfl

theorem minimumDue_of_short {o : Order} {m : Nat} (set : o.minimum = some m) (short : o.running < m) :
    o.minimumDue = some (m - o.running) := by
  simp only [Order.minimumDue, set, short, if_true]

theorem allSettled_iff (o : Order) :
    (o.items.all fun i => i.state == .settled) = true ↔ ∀ i ∈ o.items, i.state = .settled := by simp

theorem finalCheck_of_unsettled {n : Nat} {o : Order} {s : State} (found : s.order n = some o)
    (unsettled : ∃ i ∈ o.items, i.state ≠ .settled) : s.finalCheck n = s := by
  have not_all : ¬(o.items.all fun i => i.state == .settled) = true := by
    rw [allSettled_iff]
    exact fun all => unsettled.elim fun i ⟨mem, ne⟩ => ne (all i mem)
  simp only [State.finalCheck, found]
  exact if_neg not_all

theorem finalCheck_of_paid {n : Nat} {o : Order} {s : State} (found : s.order n = some o)
    (settled : ∀ i ∈ o.items, i.state = .settled) (paid : o.minimumDue = none) : s.finalCheck n = s.removeOrder n := by
  simp only [State.finalCheck, found, (allSettled_iff o).mpr settled, paid, if_true]

theorem finalCheck_of_short {n due : Nat} {o : Order} {s : State} (found : s.order n = some o)
    (settled : ∀ i ∈ o.items, i.state = .settled) (short : o.minimumDue = some due) : s.finalCheck n =
      if 128 ≤ s.store.journal.length then s.queueWait (.minimum n) else s.writeMinimum o due := by
  simp only [State.finalCheck, found, (allSettled_iff o).mpr settled, short, if_true, journalRoom_iff_not_full, ite_not]

theorem workPlace_of_paid {n : Nat} {o : Order} {s : State} (found : s.order n = some o) (paid : o.minimumDue = none) :
    s.workPlace (.minimum n) = s.removeOrder n := by
  simp only [State.workPlace, found, paid]

theorem workPlace_of_short {n due : Nat} {o : Order} {s : State} (found : s.order n = some o)
    (short : o.minimumDue = some due) : s.workPlace (.minimum n) = s.writeMinimum o due := by
  simp only [State.workPlace, found, short]

theorem writeMinimum_eq (o : Order) (due : Nat) (s : State) : s.writeMinimum o due =
    (({ s with
      store :=
        { s.store with
          journal := s.store.journal ++
            [{ seq := s.store.seq, account := o.account, order := o.number, detail := none, amount := due }]
          seq := nextNumber s.store.seq
          accounts := s.store.accounts.map fun x => if x.number = o.account then x.charge due false else x } } : State).raise
      (.settle (s.store.journal.length + 1))).removeOrder o.number := by
  have entries : (s.appendEntry o.account o.number none due).store.journal.length = s.store.journal.length + 1 :=
    List.length_append
  rw [State.writeMinimum, State.raiseSettle, updateAccount_eq, ← entries]
  rfl

/-! ## The look at an item (R157, R162) -/

theorem itemWaits_iff (o i : Nat) (s : State) : s.itemWaits o i = true ↔ .item o i ∈ s.waiting := by
  simp [State.itemWaits]

/-- R157: a look at an item that is held. -/
theorem lookItem_eq {n m : Nat} {o : Order} {it : Item} {s : State} (found : s.order n = some o)
    (item : o.item m = some it) : s.lookItem n m =
      if s.itemSettleable n it = true ∧ .item n m ∉ s.waiting then
        if it.needsEntry = true ∧ 128 ≤ s.store.journal.length then s.queueWait (.item n m) else s.settleItem o it
      else s := by
  have look : (s.itemSettleable n it && !s.itemWaits n m) = true ↔
      s.itemSettleable n it = true ∧ .item n m ∉ s.waiting := by
    rw [Bool.and_eq_true, Bool.not_eq_true', ← Bool.not_eq_true, itemWaits_iff]
  have room : (!it.needsEntry || s.journalRoom) = true ↔ ¬(it.needsEntry = true ∧ 128 ≤ s.store.journal.length) := by
    rw [Bool.or_eq_true, Bool.not_eq_true', ← Bool.not_eq_true, journalRoom_iff_not_full, not_and, ← Decidable.imp_iff_not_or]
  simp only [State.lookItem, found, item, look, room, ite_not]

theorem workPlace_item {n m : Nat} {o : Order} {it : Item} {s : State} (found : s.order n = some o)
    (item : o.item m = some it) : s.workPlace (.item n m) = s.settleItem o it := by
  simp only [State.workPlace, found, item]

/-- Settles O54: the price and the records of a settlement, then the look that leads to it, and the final check by what is due
of the order's minimum. -/
theorem itemSettles : Obligations.ItemSettles := by
  refine ⟨?_, ?_⟩
  · intro o it a s found item held settleable r entry base d discounted exact amount sum written t u v
    have needs : it.needsEntry = entry := needsEntry_eq it
    have ended : s.itemSettleable o.number it = true ↔ settleable := itemSettleable_iff o.number it s
    have price : priceItem o.cls it (tierDiscount s.store.tiers a.period) = exact := by
      rw [tierDiscount_eq, priceItem_eq]
    have sums : settledAccount it amount (2147483647 < exact) = sum := funext fun x => settledAccount_eq it amount _ x
    have settled : s.settleRecord o it = v := by
      rw [settleRecord_eq o it held]
      simp only [rewriteRecords_eq, needs, price]
      rw [sums]
      simp only [v, u, t]
      cases entry <;> rfl
    have look := lookItem_eq found item
    rw [State.settleItem, settled, needs] at look
    refine ⟨fun h fresh => ?_, fun h => ?_, ?_⟩
    · rw [look, if_pos ⟨ended.mpr h, fresh⟩]
      rfl
    · rw [look, if_neg fun ⟨can, fresh⟩ => h.elim (fun cannot => cannot (ended.mp can)) fresh]
    · rw [workPlace_item found item, State.settleItem, settled]
  · intro o s found without
    refine ⟨finalCheck_of_unsettled found, fun paid => ?_, fun m set short => ?_⟩
    · have due := minimumDue_of_paid paid
      exact ⟨workPlace_of_paid found due, fun settled => finalCheck_of_paid found settled due⟩
    · intro due t written
      have unpaid : o.minimumDue = some due := minimumDue_of_short set short
      have wrote : s.writeMinimum o due = written := by
        simp only [writeMinimum_eq, charge_eq, Bool.or_false]
        rfl
      refine ⟨(workPlace_of_short found unpaid).trans wrote, fun settled => ?_⟩
      rw [finalCheck_of_short found settled unpaid, wrote]
      rfl

/-! ## The working of the waiting list (R162) -/

/-- R162: how many places may be worked for a place: an item may leave its order's MINIMUM place behind it. -/
def placeWork : Waiting → Nat
  | .item _ _ => 2
  | .minimum _ => 1

/-- R162: how many places may be worked for a waiting list. -/
def listWork (l : List Waiting) : Nat := (l.map placeWork).sum

@[simp] theorem listWork_nil : listWork [] = 0 := rfl

@[simp] theorem listWork_cons (w : Waiting) (l : List Waiting) : listWork (w :: l) = placeWork w + listWork l := rfl

theorem listWork_concat (w : Waiting) (l : List Waiting) : listWork (l ++ [w]) = listWork l + placeWork w := by
  simp [listWork]

theorem placeWork_pos (w : Waiting) : 0 < placeWork w := by cases w <;> simp [placeWork]

theorem listWork_le (l : List Waiting) : listWork l ≤ 2 * l.length := by
  induction l with
  | nil => exact Nat.le_refl 0
  | cons w l ih =>
    have place : placeWork w ≤ 2 := by cases w <;> simp [placeWork]
    rw [listWork_cons, List.length_cons]
    omega

theorem raise_waiting (n : Notice) (s : State) : (s.raise n).waiting = s.waiting := by rw [State.raise_eq]

theorem writeMinimum_waiting (o : Order) (due : Nat) (s : State) : (s.writeMinimum o due).waiting = s.waiting := by
  simp [State.writeMinimum, State.raiseSettle, raise_waiting]

theorem settleRecord_waiting (o : Order) (it : Item) (s : State) : (s.settleRecord o it).waiting = s.waiting := by
  cases entry : it.needsEntry <;> simp [State.settleRecord, State.raiseSettle, raise_waiting, entry]

/-- R160: a final check may leave one MINIMUM place. -/
theorem finalCheck_work (n : Nat) (s : State) : listWork (s.finalCheck n).waiting ≤ listWork s.waiting + 1 := by
  unfold State.finalCheck
  split
  · split
    · split
      · split
        · rw [writeMinimum_waiting]
          exact Nat.le_succ _
        · exact Nat.le_of_eq (listWork_concat _ _)
      · exact Nat.le_succ _
    · exact Nat.le_succ _
  · exact Nat.le_succ _

/-- R162: a place taken from the list leaves less work than there was before it. -/
theorem workPlace_work (w : Waiting) (s : State) : listWork (s.workPlace w).waiting < placeWork w + listWork s.waiting := by
  cases w with
  | item o i =>
    have nothing : listWork s.waiting < 2 + listWork s.waiting := by omega
    unfold State.workPlace
    dsimp only [placeWork]
    split
    · exact nothing
    split
    · exact nothing
    · next q _ _ it _ =>
      have checked := finalCheck_work q.number (s.settleRecord q it)
      rw [settleRecord_waiting] at checked
      rw [State.settleItem]
      omega
  | minimum n =>
    have same : (s.workPlace (.minimum n)).waiting = s.waiting := by
      unfold State.workPlace
      dsimp only
      split
      · rfl
      split
      · exact writeMinimum_waiting _ _ s
      · rfl
    rw [same, placeWork]
    omega

theorem workWaiting_stops {fuel : Nat} {s : State} (stop : s.waiting = [] ∨ 128 ≤ s.store.journal.length) :
    workWaiting fuel s = s := by
  cases fuel with
  | zero => rfl
  | succ n =>
    unfold workWaiting
    split
    · rfl
    · next w rest places =>
      exact if_neg fun room => (journalRoom_iff_not_full s).mp room (stop.resolve_left (by simp [places]))

theorem workWaiting_next {fuel : Nat} {s : State} {w : Waiting} {rest : List Waiting} (places : s.waiting = w :: rest)
    (room : s.store.journal.length < 128) :
    workWaiting (fuel + 1) s = workWaiting fuel (({ s with waiting := rest } : State).workPlace w) := by
  simp only [workWaiting, places, (State.journalRoom_iff s).mpr room, if_true]

/-- R162: the list is empty, or the journal is full, or the head of the list can be taken. -/
theorem stops_or_next (s : State) : (s.waiting = [] ∨ 128 ≤ s.store.journal.length) ∨
    ∃ w rest, s.waiting = w :: rest ∧ s.store.journal.length < 128 := by
  cases places : s.waiting with
  | nil => exact .inl (.inl rfl)
  | cons w rest =>
    rcases Nat.lt_or_ge s.store.journal.length 128 with room | full
    · exact .inr ⟨w, rest, rfl, room⟩
    · exact .inl (.inr full)

/-- R162: with fuel for every place, the working ends with an empty list or a full journal. -/
theorem workWaiting_done {fuel : Nat} {s : State} (enough : listWork s.waiting ≤ fuel) :
    (workWaiting fuel s).waiting = [] ∨ 128 ≤ (workWaiting fuel s).store.journal.length := by
  induction fuel generalizing s with
  | zero =>
    refine .inl ?_
    cases places : s.waiting with
    | nil => exact places
    | cons w rest =>
      have := placeWork_pos w
      rw [places, listWork_cons] at enough
      omega
  | succ fuel ih =>
    obtain stop | ⟨w, rest, places, room⟩ := stops_or_next s
    · rwa [workWaiting_stops stop]
    · have less := workPlace_work w { s with waiting := rest }
      rw [places, listWork_cons] at enough
      rw [workWaiting_next places room]
      exact ih (Nat.le_of_lt_succ (Nat.lt_of_lt_of_le less enough))

/-- R162: fuel beyond what the list needs changes nothing. -/
theorem workWaiting_succ {fuel : Nat} {s : State} (enough : listWork s.waiting ≤ fuel) :
    workWaiting (fuel + 1) s = workWaiting fuel s := by
  induction fuel generalizing s with
  | zero =>
    refine workWaiting_stops ?_
    simpa [workWaiting] using workWaiting_done enough
  | succ fuel ih =>
    obtain stop | ⟨w, rest, places, room⟩ := stops_or_next s
    · rw [workWaiting_stops stop, workWaiting_stops stop]
    · have less := workPlace_work w { s with waiting := rest }
      rw [places, listWork_cons] at enough
      rw [workWaiting_next places room, workWaiting_next places room]
      exact ih (Nat.le_of_lt_succ (Nat.lt_of_lt_of_le less enough))

theorem workWaiting_eq_workList {fuel : Nat} {s : State} (enough : listWork s.waiting ≤ fuel) :
    workWaiting fuel s = s.workList := by
  have least {n : Nat} (le : listWork s.waiting ≤ n) : workWaiting n s = workWaiting (listWork s.waiting) s := by
    induction le with
    | refl => rfl
    | step le ih => rw [workWaiting_succ le, ih]
  rw [State.workList, least enough, least (listWork_le s.waiting)]

/-- R162: the head of the list is taken while the journal has room. -/
theorem workList_next {s : State} {w : Waiting} {rest : List Waiting} (places : s.waiting = w :: rest)
    (room : s.store.journal.length < 128) : s.workList = (({ s with waiting := rest } : State).workPlace w).workList := by
  have less := workPlace_work w { s with waiting := rest }
  have taken : s.workList = workWaiting (listWork s.waiting + 1) s := (workWaiting_eq_workList (Nat.le_succ _)).symm
  rw [taken, workWaiting_next places room, places, listWork_cons]
  exact workWaiting_eq_workList (Nat.le_of_lt less)

theorem workPlace_of_absent {o : Nat} {s : State} (absent : s.order o = none) (i : Nat) :
    s.workPlace (.item o i) = s ∧ s.workPlace (.minimum o) = s := by
  simp only [State.workPlace, absent, and_self]

/-! ## TAKE (R161, R163) -/

theorem dropEntries_stays (n : Nat) (s : State) : Stays s (s.dropEntries n) :=
  Quiet.stays (by constructor <;> simp [State.dropEntries])

theorem ownTake_stays (n : Int) (s : State) : Stays s (ownTake n s).1 := by
  unfold ownTake
  split
  · exact Stays.refl s
  dsimp only
  split
  · exact Stays.refl s
  · exact (dropEntries_stays _ s).trans (State.workList_stays _)

theorem take_taken (n : Int) (s : State) (c : s.canTake = true) :
    exec (.take n) s = .next ((ownTake n s.reserveTx).1.replied .take (ownTake n s.reserveTx).2) :=
  request_stays .take (ownTake n) s c (ownTake_stays n _)

/-- Settles O53: TAKE by what it takes, and the working of the list place by place, each place leaving less work. -/
theorem takeAndWaitingList : Obligations.TakeAndWaitingList := by
  refine ⟨fun n s c => ?_, fun s => ⟨fun live => whenLive_of_live live State.workList, workWaiting_stops,
    fun w rest => workList_next, fun o i absent => workPlace_of_absent absent i,
    workWaiting_done (listWork_le s.waiting)⟩⟩
  intro fields taken
  have entry : Entry.fields = fields := funext fun e => by
    cases detail : e.detail <;> simp only [Entry.fields, fields, detail] <;> rfl
  refine ⟨?_, ?_⟩
  · rw [take_taken n s c, ownTake]
    simp only [← inRange_iff, State.reserveTx_store, entry]
    cases inRange 1 8 n with
    | false => exact congrArg _ (State.replied_reserve _ _ s)
    | true =>
      cases head : s.store.journal.take n.toNat with
      | nil => simp [taken, head, State.replied_reserve]
      | cons e rest => simp [taken, head, State.dropEntries]
  · refine (query_taken .take ownTakeState s c).trans ?_
    simp only [ownTakeState, State.reserveTx_store, State.reserveTx_waiting]
    cases s.store.journal <;> rfl

end Sys2Proof.ChargeLaws

/-! PROOFS. The statements on chapter 9, the Line Link: what the line slots receive, the requests and events that are not taken, the
general queries STAT and MEMS, and the shape of the Link that every step keeps. -/

namespace Sys2Proof.LineLaws

open Sys2Proof.Machine ExposureLaws OrderLaws LinkLaws PrintLaws ChargeLaws

/-! ## STAT and MEMS (R176, R186) -/

theorem causeField_eq (c : CycleState) : c.causeField = match c with
    | .waiting w => .word w.word
    | .halted h _ => .word h.word
    | _ => .empty := by
  cases c <;> rfl

theorem kinds_eq (o : Outbox) : o.kinds =
    let pending := NoticeKind.all.filter fun k => o.notices.any fun n => n.kind == k
    if pending = [] then .empty else .plus (pending.map NoticeKind.word) := by
  simp only [Outbox.kinds, List.isEmpty_iff]

theorem openField_eq (b : Bool) :
    openField b = .word (if b then ['O', 'P', 'E', 'N'] else ['C', 'L', 'O', 'S', 'E', 'D']) := by
  cases b <;> rfl

/-- R176: the reservation of the transmitter changes no field of STAT. -/
theorem ownStat_reserveTx (s : State) : ownStat s.reserveTx = ownStat s := by
  simp [ownStat, Outbox.kinds, State.lastFrame, State.frameAt, State.freeRecords]

theorem ownMems_reserveTx (s : State) : ownMems s.reserveTx = ownMems s := by simp [ownMems]

/-- Settles O57: both are queries, and each field of their answers is the state's. -/
theorem statAndMems : Obligations.StatAndMems := by
  intro s c
  refine ⟨?_, ?_⟩
  · refine (query_taken .stat ownStat s c).trans ?_
    rw [ownStat_reserveTx, ownStat, kinds_eq, causeField_eq, openField_eq]
    rfl
  · refine (query_taken .mems ownMems s c).trans ?_
    rw [ownMems_reserveTx, ownMems]
    cases gate : s.store.startRecord.gate with
    | none => cases s.store.marker <;> rfl
    | some g =>
      obtain ⟨roll, frame, spoiled⟩ := g
      cases s.store.marker <;> cases spoiled <;> rfl

/-! ## The slots of the receiving side (R166 to R169) -/

theorem filling_isSome (l : Link) : l.filling.isSome = l.slots.any fun x => x.state == .filling :=
  List.isSome_find?

theorem filling_isSome_of_mem {l : Link} {x : LineSlot} (mem : x ∈ l.slots) (fills : x.state = .filling) :
    l.filling.isSome = true := by
  rw [filling_isSome, List.any_eq_true]
  exact ⟨x, mem, by simp [fills]⟩

/-- R167: the one FILLING slot is rewritten in its place. -/
theorem updateFilling_at {l : Link} {before after : List LineSlot} {x : LineSlot} (f : LineSlot → LineSlot)
    (slots : l.slots = before ++ x :: after) (fills : x.state = .filling)
    (others : ∀ y ∈ before ++ after, y.state ≠ .filling) :
    l.updateFilling f = { l with slots := before ++ f x :: after } := by
  have same : ∀ k : List LineSlot, (∀ y ∈ k, y.state ≠ .filling) →
      (k.map fun y => if y.state = .filling then f y else y) = k := fun k h =>
    (List.map_congr_left fun y mem => if_neg (h y mem)).trans (List.map_id' k)
  simp only [List.mem_append] at others
  simp only [Link.updateFilling, slots, List.map_append, List.map_cons, beq_iff_eq, fills, if_true,
    same before fun y m => others y (.inl m), same after fun y m => others y (.inr m)]

theorem any_full_iff (k : List LineSlot) : k.any LineSlot.full = true ↔ ∃ y ∈ k, y.state ≠ .filling := by
  simp [LineSlot.full]

theorem any_full_eq_false {k : List LineSlot} (h : ∀ y ∈ k, y.state = .filling) : k.any LineSlot.full = false := by
  rw [← Bool.not_eq_true, any_full_iff]
  rintro ⟨y, mem, full⟩
  exact full (h y mem)

/-- R168: the younger full slot is the last one. -/
theorem addToYoungest_at {before after : List LineSlot} {x : LineSlot} (full : x.state ≠ .filling)
    (last : ∀ y ∈ after, y.state = .filling) : addToYoungest (before ++ x :: after) = before ++ x.addOverrun :: after := by
  induction before with
  | nil => simp [addToYoungest, any_full_eq_false last, LineSlot.full, full]
  | cons y before ih =>
    have more : (before ++ x :: after).any LineSlot.full = true := (any_full_iff _).mpr ⟨x, by simp, full⟩
    rw [List.cons_append, addToYoungest, if_pos more, ih, List.cons_append]

/-- R168: an overrun line counts at the younger full slot. -/
theorem endOverrun_counted {l : Link} {before after : List LineSlot} {x : LineSlot} (slots : l.slots = before ++ x :: after)
    (full : x.state ≠ .filling) (last : ∀ y ∈ after, y.state = .filling) :
    l.endOverrun = { l with lost := none, slots := before ++ x.addOverrun :: after } := by
  have counts : l.slots.any LineSlot.full = true := (any_full_iff _).mpr ⟨x, by simp [slots], full⟩
  simp only [Link.endOverrun, counts, if_true]
  rw [slots, addToYoungest_at full last]

/-- R168: with no full slot its OVER reply is owed at once. -/
theorem endOverrun_owed {l : Link} (h : ∀ y ∈ l.slots, y.state = .filling) :
    l.endOverrun = ({ l with lost := none, overOwed := min 255 (l.overOwed + 1) } : Link).placeOvers := by
  simp only [Link.endOverrun, any_full_eq_false h, Bool.false_eq_true, if_false]
  rfl

/-- R166: a character that is neither CR nor LF, or that came with a framing error. -/
def plainChar (c : Byte) (framing : Bool) : Bool := framing = true ∨ (c ≠ 10 ∧ c ≠ 13)

theorem receive_plain {c : Byte} {framing : Bool} (plain : plainChar c framing = true) (l : Link) :
    l.receive c framing = l.character c framing := by
  cases framing with
  | true => rfl
  | false =>
    obtain ⟨lf, cr⟩ : c ≠ 10 ∧ c ≠ 13 := by simpa [plainChar] using plain
    simp only [Link.receive, Bool.false_eq_true, if_false, beq_iff_eq, lf, cr]

theorem receive_cr (l : Link) : l.receive 13 false = l.lineEnd := rfl

/-- R167: what a character does to the slot that its line fills. -/
def storedIn (c : Byte) (framing : Bool) (x : LineSlot) : LineSlot :=
  let bad : Bool := framing = true ∨ c.toNat < 32 ∨ 126 < c.toNat
  if 160 ≤ x.count then { x with tooLong := true, malformed := x.malformed || bad }
  else if bad then { x with count := x.count + 1, malformed := true, badHead := x.badHead || decide (x.count < 4) }
  else { x with count := x.count + 1, chars := x.chars ++ [Char.ofNat c.toNat] }

theorem slotReceive_eq (c : Byte) (framing : Bool) (x : LineSlot) : x.receive c framing = storedIn c framing x := by
  have bad : badChar c framing = decide (framing = true ∨ c.toNat < 32 ∨ 126 < c.toNat) := by
    simp [badChar, Bool.or_assoc]
  simp only [LineSlot.receive, storedIn, bad, Config.maxLine]
  cases decide (framing = true ∨ c.toNat < 32 ∨ 126 < c.toNat) <;> simp

/-- R167, R178: a character while no slot is FILLING: the line that is being lost goes on, or a line begins, stored, discarded or
overrun. -/
theorem character_begins {l : Link} (none_fills : l.filling.isSome = false) (c : Byte) (framing : Bool) :
    l.character c framing =
      if l.lost ≠ none then l
      else if l.discard = true then { l with lost := some .discarded }
      else if l.slots.length < 2 then { l with slots := l.slots ++ [storedIn c framing LineSlot.fresh] }
      else { l with lost := some .overrun } := by
  rw [← slotReceive_eq]
  simp only [Link.character, none_fills, Link.emptySlot, Option.isSome_iff_ne_none, Bool.false_eq_true, if_false,
    decide_eq_true_eq]
  rfl

/-- R167, R168: a CR while no slot is FILLING, and the lost line is no overrun line. -/
theorem lineEnd_lost {l : Link} (none_fills : l.filling.isSome = false) (h : l.lost ≠ some .overrun) :
    l.lineEnd = { l with lost := none } := by
  obtain ⟨slots, lost, discard, replies, owed, rate⟩ := l
  simp only [Link.lineEnd, none_fills]
  match lost with
  | none | some .discarded => rfl
  | some .overrun => exact absurd rfl h

/-- Settles O55: the one FILLING slot is rewritten in its place, and with none FILLING the line is lost or begins. -/
theorem lineSlotsReceive : Obligations.LineSlotsReceive := by
  intro c framing s live l put stored plain filling
  have linked : ∀ f, whenLive (State.withLink f) s = .next (put (f l)) := fun f => whenLive_of_live live _
  have received : exec (.characterReceived c framing) s = .next (put (l.receive c framing)) := linked _
  have completed : exec .lineComplete s = .next (put (if l.filling.isSome then l.lineEnd else l)) := linked _
  have late : exec .partialLineTimeout s = .next (put l.partialTimeout) := linked _
  have ended : exec .overrunLineEnd s = .next (put l.overrunEnd) := linked _
  have lateOverrun : exec .overrunLineTimeout s = exec .overrunLineEnd s := rfl
  refine ⟨fun before x after slots fills others => ?_, fun right lf => ?_, fun none_fills => ?_, fun noOverrun => ?_,
    fun overrun => ?_⟩
  · have here : l.filling.isSome = true := filling_isSome_of_mem (by simp [slots]) fills
    have rewritten := fun f => updateFilling_at f slots fills others
    refine ⟨fun p => ?_, fun right cr => ?_, ?_, ?_⟩
    · rw [received, receive_plain p, Link.character, if_pos here, rewritten, slotReceive_eq]
      rfl
    · subst right cr
      rw [received, receive_cr, Link.lineEnd, if_pos here, rewritten]
    · rw [completed, if_pos here, Link.lineEnd, if_pos here, rewritten]
    · rw [late, Link.partialTimeout, if_pos here, rewritten]
      rfl
  · subst right lf
    exact received
  · have none_here : l.filling.isSome = false := (filling_isSome l).trans none_fills
    refine ⟨fun p => ?_, fun right cr noOverrun => ?_, fun right cr overrun => ?_, ?_, ?_⟩
    · rw [received, receive_plain p, character_begins none_here]
      rfl
    · subst right cr
      rw [received, receive_cr, lineEnd_lost none_here noOverrun]
    · subst right cr
      rw [received, ended, receive_cr, Link.lineEnd, none_here, Link.overrunEnd, overrun]
      rfl
    · simp [completed, none_here]
    · simp [late, Link.partialTimeout, none_here]
  · have stays : exec .overrunLineEnd s = .next (put l) := by simp [ended, Link.overrunEnd, noOverrun]
    exact ⟨stays, lateOverrun.trans stays⟩
  · have counts : exec .overrunLineEnd s = .next (put l.endOverrun) := by simp [ended, Link.overrunEnd, overrun]
    refine ⟨lateOverrun, fun before x after slots full last => ?_, fun fills => ?_⟩
    · rw [counts, endOverrun_counted slots full last]
      rfl
    · rw [counts, endOverrun_owed fills]

/-! ## The shape of the Line Link (R167, R170, R174, R175) -/

/-- R167, R170: what `LinkWf` says of the receiving side and of the reply queue. -/
structure LinkShape (l : Link) : Prop where
  slots : l.slots.length ≤ Config.maxSlots
  slotWf : ∀ x ∈ l.slots, x.wf = true
  filling : (l.slots.countP fun x => x.state == .filling) ≤ 1
  lost : l.lost.isSome = true → l.filling = none
  replies : l.replies.length ≤ Config.maxReplies

/-- `LinkWf`, said of the Line Link and the outbox alone, so that a change of the other blocks keeps it as it stands. -/
def LinkOk (s : State) : Prop :=
  LinkShape s.link ∧ s.outbox.distinct ∧ (s.outbox.tx = .idle → s.link.replies = [] ∧ s.outbox.notices = [])

theorem linkOk_iff (s : State) : LinkOk s ↔ LinkWf s := by
  constructor
  · rintro ⟨⟨slots, slotWf, filling, lost, replies⟩, notices, idle⟩
    exact ⟨slots, List.all_eq_true.mpr slotWf, by rwa [← List.countP_eq_length_filter], lost, replies, notices, idle⟩
  · rintro ⟨slots, slotWf, filling, lost, replies, notices, idle⟩
    exact ⟨⟨slots, List.all_eq_true.mp slotWf, by rwa [List.countP_eq_length_filter], lost, replies⟩, notices, idle⟩

/-! ### The transmitter -/

theorem noticeKind_mem_all (k : NoticeKind) : k ∈ NoticeKind.all := by cases k <;> decide

/-- R175: no first notice, no pending notice: every kind has its place in the order. -/
theorem notices_of_first_none {o : Outbox} (h : o.first = none) : o.notices = [] := by
  refine List.eq_nil_iff_forall_not_mem.mpr fun n mem => ?_
  have absent := List.findSome?_eq_none_iff.mp h n.kind (noticeKind_mem_all _)
  simpa using List.find?_eq_none.mp absent n mem

/-- R175: a transmitter that has chosen is idle only with nothing to send. -/
theorem linkOk_chooseLine {s : State} (shape : LinkShape s.link) (distinct : s.outbox.distinct) : LinkOk s.chooseLine := by
  refine ⟨by rw [State.chooseLine_eq]; exact shape, State.chooseLine_distinct s distinct, ?_⟩
  unfold State.chooseLine Outbox.sendNotice
  split
  · rename_i empty
    split
    · exact nofun
    · rename_i nothing
      exact fun _ => ⟨List.isEmpty_iff.mp empty, notices_of_first_none nothing⟩
  · exact nofun

theorem linkOk_wake {s : State} (shape : LinkShape s.link) (distinct : s.outbox.distinct) : LinkOk s.wake := by
  by_cases idle : s.outbox.tx = .idle
  · rw [State.wake, if_pos (beq_iff_eq.mpr idle)]
    exact linkOk_chooseLine shape distinct
  · rw [State.wake_busy s idle]
    exact ⟨shape, distinct, fun h => absurd h idle⟩

theorem linkOk_withLink {f : Link → Link} (hf : ∀ l, LinkShape l → LinkShape (f l)) {s : State} (h : LinkOk s) :
    LinkOk (s.withLink f) :=
  linkOk_wake (hf _ h.1) h.2.1

/-! ### The line slots -/

theorem slotWf_iff (x : LineSlot) :
    x.wf = true ↔ x.chars.length ≤ x.count ∧ x.count ≤ 160 ∧ x.chars.all printable = true ∧ x.overrun ≤ 255 := by
  simp only [LineSlot.wf, Bool.and_eq_true, decide_eq_true_eq, and_assoc]
  exact Iff.rfl

/-- R166: a character that can be stored is printable. -/
theorem printable_of_badChar {c : Byte} {framing : Bool} (good : badChar c framing = false) :
    printable (Char.ofNat c.toNat) = true := by
  have range : 32 ≤ c.toNat ∧ c.toNat ≤ 126 := by
    simp only [badChar, Bool.or_eq_false_iff, decide_eq_false_iff_not] at good
    omega
  have valid : c.toNat.isValidChar := Or.inl (by omega)
  have code : (Char.ofNat c.toNat).toNat = c.toNat := by
    rw [Char.ofNat, dif_pos valid]
    rfl
  simp [printable, code, range]

theorem slotWf_fresh : LineSlot.fresh.wf = true := by decide

theorem slotWf_receive (c : Byte) (framing : Bool) {x : LineSlot} (h : x.wf = true) : (x.receive c framing).wf = true := by
  obtain ⟨stored, count, print, overrun⟩ := (slotWf_iff x).mp h
  rw [slotWf_iff]
  by_cases long : 160 ≤ x.count
  · have : x.receive c framing = { x with malformed := x.malformed || badChar c framing, tooLong := true } := if_pos long
    rw [this]
    exact ⟨stored, count, print, overrun⟩
  · have : x.receive c framing =
        { x with
          malformed := x.malformed || badChar c framing
          count := x.count + 1
          badHead := x.badHead || (badChar c framing && x.count < 4)
          chars := if badChar c framing then x.chars else x.chars ++ [Char.ofNat c.toNat] } := if_neg long
    rw [this]
    cases bad : badChar c framing with
    | true => exact ⟨Nat.le_succ_of_le stored, by simp only; omega, print, overrun⟩
    | false =>
      refine ⟨by simpa using stored, by simp only; omega, ?_, overrun⟩
      simpa [printable_of_badChar bad] using print

theorem slotWf_timeOut {x : LineSlot} (h : x.wf = true) : x.timeOut.wf = true := by
  rw [slotWf_iff] at h ⊢
  exact ⟨Nat.le_refl _, Nat.zero_le _, rfl, h.2.2.2⟩

theorem slotWf_addOverrun {x : LineSlot} (h : x.wf = true) : x.addOverrun.wf = true := by
  rw [slotWf_iff] at h ⊢
  obtain ⟨stored, count, print, -⟩ := h
  exact ⟨stored, count, print, Nat.min_le_left _ _⟩

/-! ### The operations of the receiving side -/

theorem filling_none_iff (l : Link) : l.filling = none ↔ (l.slots.countP fun x => x.state == .filling) = 0 := by
  simp [Link.filling, List.find?_eq_none, List.countP_eq_zero]

/-- Rewritten slots: no more of them, and no more of them FILLING. -/
theorem LinkShape.rewrite {l : Link} (h : LinkShape l) {k : List LineSlot} (room : k.length ≤ l.slots.length)
    (wf : ∀ x ∈ k, x.wf = true)
    (fewer : (k.countP fun x => x.state == .filling) ≤ l.slots.countP fun x => x.state == .filling) :
    LinkShape { l with slots := k } where
  slots := Nat.le_trans room h.slots
  slotWf := wf
  filling := Nat.le_trans fewer h.filling
  lost := fun losing => (filling_none_iff _).mpr <| Nat.le_zero.mp <|
    Nat.le_trans fewer (Nat.le_of_eq ((filling_none_iff l).mp (h.lost losing)))
  replies := h.replies

/-- R167, R168: with no slot FILLING any line may be lost. -/
theorem LinkShape.lose {l : Link} (h : LinkShape l) (none_fills : l.filling = none) (x : Option LostLine) :
    LinkShape { l with lost := x } :=
  ⟨h.slots, h.slotWf, h.filling, fun _ => none_fills, h.replies⟩

theorem LinkShape.found {l : Link} (h : LinkShape l) : LinkShape { l with lost := none } :=
  ⟨h.slots, h.slotWf, h.filling, nofun, h.replies⟩

theorem shape_updateFilling {f : LineSlot → LineSlot} (hf : ∀ x : LineSlot, x.wf = true → (f x).wf = true) {l : Link}
    (h : LinkShape l) : LinkShape (l.updateFilling f) := by
  refine h.rewrite (Nat.le_of_eq (List.length_map _)) (fun y mem => ?_) ?_
  · obtain ⟨x, old, rfl⟩ := List.mem_map.mp mem
    split
    · exact hf x (h.slotWf x old)
    · exact h.slotWf x old
  · rw [List.countP_map]
    refine List.countP_mono_left fun x _ => ?_
    by_cases fills : x.state = .filling <;> simp [fills]

theorem shape_character (c : Byte) (framing : Bool) {l : Link} (h : LinkShape l) : LinkShape (l.character c framing) := by
  unfold Link.character
  split
  · exact shape_updateFilling (fun x => slotWf_receive c framing) h
  · rename_i fills
    have none_fills : l.filling = none := by simpa using fills
    split
    · exact h
    · rename_i lost
      split
      · exact h.lose none_fills _
      · split
        · rename_i room
          have empty := (filling_none_iff l).mp none_fills
          refine ⟨length_concat_le (of_decide_eq_true room), fun x mem => ?_, ?_, fun losing => absurd losing lost, h.replies⟩
          · rcases List.mem_append.mp mem with old | new
            · exact h.slotWf x old
            · rw [List.mem_singleton.mp new]
              exact slotWf_receive c framing slotWf_fresh
          · rw [List.countP_append, empty, Nat.zero_add]
            exact List.countP_le_length
        · exact h.lose none_fills _

theorem addToYoungest_length (k : List LineSlot) : (addToYoungest k).length = k.length := by
  induction k with
  | nil => rfl
  | cons x k ih =>
    unfold addToYoungest
    split
    · simp [ih]
    · split <;> rfl

theorem addToYoungest_filling (k : List LineSlot) :
    ((addToYoungest k).countP fun x => x.state == .filling) = k.countP fun x => x.state == .filling := by
  induction k with
  | nil => rfl
  | cons x k ih =>
    unfold addToYoungest
    split
    · simp only [List.countP_cons, ih]
    · split <;> rfl

theorem addToYoungest_wf {k : List LineSlot} (h : ∀ x ∈ k, x.wf = true) : ∀ x ∈ addToYoungest k, x.wf = true := by
  induction k with
  | nil => exact h
  | cons x k ih =>
    obtain ⟨first, rest⟩ := List.forall_mem_cons.mp h
    unfold addToYoungest
    split
    · exact List.forall_mem_cons.mpr ⟨first, ih rest⟩
    · split
      · exact List.forall_mem_cons.mpr ⟨slotWf_addOverrun first, rest⟩
      · exact h

/-- R168: OVER replies are placed no further than the queue has room. -/
theorem shape_placeOvers {l : Link} (h : LinkShape l) : LinkShape l.placeOvers where
  slots := h.slots
  slotWf := h.slotWf
  filling := h.filling
  lost := h.lost
  replies := by
    have room := h.replies
    simp only [Link.placeOvers, List.length_append, List.length_replicate]
    omega

/-- R168: the number of OVER replies owed is free. -/
theorem LinkShape.owe {l : Link} (h : LinkShape l) (n : Nat) : LinkShape { l with overOwed := n } :=
  ⟨h.slots, h.slotWf, h.filling, h.lost, h.replies⟩

theorem shape_endOverrun {l : Link} (h : LinkShape l) : LinkShape l.endOverrun := by
  unfold Link.endOverrun
  dsimp only
  split
  · exact h.found.rewrite (Nat.le_of_eq (addToYoungest_length _)) (addToYoungest_wf h.slotWf)
      (Nat.le_of_eq (addToYoungest_filling _))
  · exact shape_placeOvers (h.found.owe _)

theorem shape_lineEnd {l : Link} (h : LinkShape l) : LinkShape l.lineEnd := by
  unfold Link.lineEnd
  split
  · exact shape_updateFilling (f := fun x => { x with state := .ready }) (fun _ good => good) h
  · split
    · exact shape_endOverrun h
    · exact h.found
    · exact h

theorem shape_receive (c : Byte) (framing : Bool) {l : Link} (h : LinkShape l) : LinkShape (l.receive c framing) := by
  unfold Link.receive
  split
  · exact shape_character c true h
  · split
    · exact h
    · split
      · exact shape_lineEnd h
      · exact shape_character c false h

theorem shape_partialTimeout {l : Link} (h : LinkShape l) : LinkShape l.partialTimeout := by
  unfold Link.partialTimeout
  split
  · exact shape_updateFilling (fun _ => slotWf_timeOut) h
  · split
    · exact h.found
    · exact h

theorem shape_overrunEnd {l : Link} (h : LinkShape l) : LinkShape l.overrunEnd := by
  unfold Link.overrunEnd
  split
  · exact shape_endOverrun h
  · exact h

/-- R170: the oldest full slot leaves the others as they were. -/
theorem takeOldest_perm {k rest : List LineSlot} {x : LineSlot} (h : takeOldest k = some (x, rest)) : k.Perm (x :: rest) := by
  induction k generalizing rest with
  | nil => cases h
  | cons y k ih =>
    unfold takeOldest at h
    split at h
    · cases h
      exact .refl _
    · obtain ⟨⟨z, k'⟩, found, same⟩ := Option.map_eq_some_iff.mp h
      cases same
      exact ((ih found).cons y).trans (.swap _ _ _)

theorem shape_dispatched {l : Link} {x : LineSlot} {rest : List LineSlot} (h : LinkShape l)
    (oldest : takeOldest l.slots = some (x, rest)) : LinkShape { l with slots := rest } := by
  have perm := takeOldest_perm oldest
  refine h.rewrite ?_ (fun y mem => h.slotWf y (perm.mem_iff.mpr (List.mem_cons_of_mem x mem))) ?_
  · rw [perm.length_eq, List.length_cons]
    omega
  · rw [perm.countP_eq, List.countP_cons]
    omega

/-- R178: a Link that has just started has nothing in it. -/
theorem shape_start (rate : Nat) : LinkShape (Link.start rate) :=
  ⟨Nat.zero_le _, nofun, Nat.zero_le _, nofun, Nat.zero_le _⟩

theorem shape_startDiscard {l : Link} (h : LinkShape l) : LinkShape l.startDiscard :=
  ⟨Nat.zero_le _, nofun, Nat.zero_le _, fun _ => rfl, h.replies⟩

/-! ## The operations of the blocks (chapters 1 to 8)

A block reaches the Line Link by raising a notice alone. An operation that raises none leaves `LinkOk s` as it stands, by
definition. -/

section
variable {s : State}

theorem LinkOk.same {t : State} (h : LinkOk s) (link : t.link = s.link) (outbox : t.outbox = s.outbox) : LinkOk t := by
  unfold LinkOk
  rwa [link, outbox]

/-- R174, R175: a raised notice takes the place of one of its kind, and an idle transmitter takes it up. -/
theorem linkOk_raise (n : Notice) (h : LinkOk s) : LinkOk (s.raise n) :=
  linkOk_wake h.1 (Outbox.add_distinct n _ h.2.1)

theorem linkOk_foldl {α : Type} {f : State → α → State} (hf : ∀ {t : State} (a : α), LinkOk t → LinkOk (f t a)) (l : List α)
    (h : LinkOk s) : LinkOk (l.foldl f s) := by
  induction l generalizing s with
  | nil => exact h
  | cons a l ih => exact ih (hf a h)

/-! ### Rolls and settlement -/

theorem linkOk_changeRoll (r : Roll) (st : RollState) (h : LinkOk s) : LinkOk (s.changeRoll r st) :=
  linkOk_raise _ h

theorem linkOk_checkRoll (n : Nat) (h : LinkOk s) : LinkOk (s.checkRoll n) := by
  unfold State.checkRoll
  split
  · split
    · exact linkOk_changeRoll _ _ h
    · exact h
  · exact h

theorem linkOk_reportFilmEnd (h : LinkOk s) : LinkOk s.reportFilmEnd := by
  unfold State.reportFilmEnd
  repeat' split
  all_goals exact h

theorem linkOk_discardQueue (h : LinkOk s) : LinkOk s.discardQueue :=
  linkOk_foldl (f := fun t (c : Context) => t.setStep c.ref .pending) (s := { s with contexts := [] }) (fun _ k => k) _ h

theorem linkOk_writeMinimum (o : Order) (due : Nat) (h : LinkOk s) : LinkOk (s.writeMinimum o due) :=
  linkOk_raise _ (s := (s.appendEntry o.account o.number none due).updateAccount o.account (Account.charge due false)) h

theorem linkOk_finalCheck (n : Nat) (h : LinkOk s) : LinkOk (s.finalCheck n) := by
  unfold State.finalCheck
  split
  · split
    · split
      · split
        · exact linkOk_writeMinimum _ _ h
        · exact h
      · exact h
    · exact h
  · exact h

theorem linkOk_settleItem (o : Order) (it : Item) (h : LinkOk s) : LinkOk (s.settleItem o it) := by
  refine linkOk_finalCheck _ ?_
  unfold State.settleRecord
  dsimp only
  split
  · refine linkOk_raise _ (h.same ?_ ?_) <;> simp
  · exact h.same rfl rfl

theorem linkOk_lookItem (o i : Nat) (h : LinkOk s) : LinkOk (s.lookItem o i) := by
  unfold State.lookItem
  split
  · exact h
  · split
    · exact h
    · split
      · split
        · exact linkOk_settleItem _ _ h
        · exact h
      · exact h

theorem linkOk_workPlace (w : Waiting) (h : LinkOk s) : LinkOk (s.workPlace w) := by
  unfold State.workPlace
  split
  · split
    · exact h
    · split
      · exact h
      · exact linkOk_settleItem _ _ h
  · split
    · exact h
    · split
      · exact linkOk_writeMinimum _ _ h
      · exact h

theorem linkOk_workWaiting (fuel : Nat) (h : LinkOk s) : LinkOk (workWaiting fuel s) := by
  induction fuel generalizing s with
  | zero => exact h
  | succ n ih =>
    unfold workWaiting
    split
    · exact h
    · split
      · exact ih (linkOk_workPlace _ h)
      · exact h

theorem linkOk_rebuildWaiting (h : LinkOk s) : LinkOk s.rebuildWaiting :=
  linkOk_foldl (f := fun t n => t.finalCheck n) linkOk_finalCheck _
    (linkOk_foldl (f := fun t (p : Nat × Nat) => t.lookItem p.1 p.2) (s := { s with waiting := [] })
      (fun p => linkOk_lookItem p.1 p.2) _ h)

/-! ### The stand cycle -/

theorem linkOk_spoilGate (k : FrameCause) (c : Context) (m : Option Nat) (h : LinkOk s) : LinkOk (s.spoilGate k c m) := by
  unfold State.spoilGate
  split <;> exact h

theorem linkOk_voidGate (k : FrameCause) (h : LinkOk s) : LinkOk (s.voidGate k) := by
  unfold State.voidGate
  split <;> exact h

theorem linkOk_enterPlace (o i : Nat) (h : LinkOk s) : LinkOk (s.enterPlace o i) := linkOk_raise _ h

theorem linkOk_halt (c : HaltCause) (h : LinkOk s) : LinkOk (s.halt c) := linkOk_raise _ h

theorem linkOk_enterMetering (src : Source) (h : LinkOk s) : LinkOk (s.enterMetering src) := by
  unfold State.enterMetering State.askMetering
  split <;> exact h

theorem linkOk_endActive (o : Nat) (it : Item) (c : Bool) (h : LinkOk s) : LinkOk (s.endActive o it c) :=
  linkOk_lookItem _ _ (linkOk_raise _ (linkOk_discardQueue (s := s.withCycle Cycle.lampsOff) h))

theorem linkOk_endCancelPending (h : LinkOk s) : LinkOk s.endCancelPending := by
  unfold State.endCancelPending
  split
  · split
    · exact linkOk_endActive _ _ _ h
    · exact h
  · exact h

theorem linkOk_offer (n : Nat) (h : LinkOk s) : LinkOk (s.offer n).1 := by
  unfold State.offer
  split
  · exact h
  · split
    · dsimp only
      split <;> exact h
    · exact h

theorem linkOk_scanOrders (l : List Nat) (h : LinkOk s) : LinkOk (scanOrders l s).1 := by
  induction l generalizing s with
  | nil => exact h
  | cons n l ih =>
    have offered := linkOk_offer n h
    unfold scanOrders
    split
    · rename_i e
      rwa [e] at offered
    · rename_i e
      rw [e] at offered
      exact ih offered

theorem linkOk_select (h : LinkOk s) : LinkOk s.select := by
  unfold State.select
  split
  · split
    · exact linkOk_enterPlace _ _ h
    · have scanned := linkOk_scanOrders s.scanList h
      split
      · rename_i e
        rw [e] at scanned
        exact linkOk_enterPlace _ _ scanned
      · rename_i e
        rw [e] at scanned
        exact scanned
  · exact h

theorem linkOk_selectIfWaiting (h : LinkOk s) : LinkOk s.selectIfWaiting := by
  unfold State.selectIfWaiting
  split
  · exact linkOk_select h
  · exact h

theorem linkOk_returnContext (c : Context) (d : Bool) (h : LinkOk s) : LinkOk (s.returnContext c d) := by
  unfold State.returnContext
  split <;> exact h

theorem linkOk_reportFault (c : HaltCause) (h : LinkOk s) : LinkOk (s.reportFault c) := by
  unfold State.reportFault
  split
  · exact linkOk_halt _ (linkOk_endCancelPending h)
  · exact h

theorem linkOk_outcomeLamp (c : Context) (h : LinkOk s) : LinkOk (s.outcomeLamp c) := by
  refine linkOk_reportFault _ (linkOk_lookItem _ _ ?_)
  exact linkOk_discardQueue (s := (s.spoilGate .lamp c (some s.shutter.ticks)).setStep c.ref .pending) (linkOk_spoilGate _ _ _ h)

theorem linkOk_outcomeShutOpen (c : Context) (h : LinkOk s) : LinkOk (s.outcomeShutOpen c) :=
  linkOk_reportFault _ (linkOk_lookItem _ _ h)

theorem linkOk_outcomeShutClose (c : Context) (m : Option Nat) (d : Bool) (h : LinkOk s) :
    LinkOk (s.outcomeShutClose c m d) := by
  refine linkOk_reportFault _ (linkOk_lookItem _ _ ?_)
  exact linkOk_returnContext c d (linkOk_spoilGate _ _ _ h)

theorem linkOk_enterExposing (h : LinkOk s) : LinkOk s.enterExposing := by
  unfold State.enterExposing State.beginExposure
  split
  · dsimp only
    split
    · exact linkOk_outcomeShutClose _ _ _ h
    · exact h
  · exact h

theorem linkOk_fill (src : FillLight) (h : LinkOk s) : LinkOk (s.fill src) := by
  unfold State.fill
  repeat' split
  all_goals exact h

theorem linkOk_fillManual (it : Item) (h : LinkOk s) : LinkOk (s.fillManual it) := by
  unfold State.fillManual
  split
  · exact linkOk_fill _ h
  · exact h

theorem linkOk_forwardAtGate (h : LinkOk s) : LinkOk s.forwardAtGate := by
  unfold State.forwardAtGate
  split
  · exact h
  · rename_i it _
    have filled := linkOk_fillManual it h
    dsimp only
    split
    · unfold State.exposeOrWarm
      split
      · exact linkOk_enterExposing filled
      · exact filled
    · split
      · exact filled
      · unfold State.meterOrWarm
        split
        · exact linkOk_enterMetering _ filled
        · exact filled

theorem linkOk_compareReload (f : Nat) (h : LinkOk s) : LinkOk (s.compareReload f) := by
  unfold State.compareReload
  split
  · exact linkOk_discardQueue h
  · exact h

/-! ### The advance -/

theorem linkOk_createFrame (r : Roll) (st : FrameState) (g : Option Int) (c : Option FrameCause) (n : Bool) (h : LinkOk s) :
    LinkOk (s.createFrame r st g c n) := by
  unfold State.createFrame
  dsimp only
  split
  · exact linkOk_raise _ h
  · exact h

theorem linkOk_createPositioned (r : Roll) (c : Int) (n : Bool) (h : LinkOk s) : LinkOk (s.createPositioned r c n) := by
  have created := linkOk_createFrame r .positioned (some c) none n h
  unfold State.createPositioned
  dsimp only
  split
  · exact linkOk_compareReload _ (linkOk_changeRoll _ _ created)
  · exact created

theorem linkOk_windingPositioned (h : LinkOk s) : LinkOk s.windingPositioned := by
  have ended := linkOk_endCancelPending h
  unfold State.windingPositioned
  dsimp only
  split
  · exact ended
  · split
    · exact linkOk_select ended
    · exact linkOk_forwardAtGate ended

theorem linkOk_windingEnd (e : AdvanceEnd) (h : LinkOk s) : LinkOk (s.windingEnd e) := by
  unfold State.windingEnd
  split
  · split
    · exact linkOk_windingPositioned h
    · split
      · exact linkOk_halt _ (linkOk_endCancelPending h)
      · exact h
  · exact h

theorem linkOk_windEnd (e : AdvanceEnd) (h : LinkOk s) : LinkOk (s.windEnd e) := by
  unfold State.windEnd
  split
  · exact linkOk_selectIfWaiting h
  · split
    · exact linkOk_raise _ h
    · exact h

theorem linkOk_threadingEnd (e : AdvanceEnd) (h : LinkOk s) : LinkOk (s.threadingEnd e) := by
  unfold State.threadingEnd
  split
  · exact linkOk_selectIfWaiting h
  · split
    · split
      · exact linkOk_raise _ h
      · exact h
    · exact h

theorem linkOk_reportAdvance (q : Requester) (e : AdvanceEnd) (h : LinkOk s) : LinkOk (s.reportAdvance q e) := by
  cases q with
  | cycle => exact linkOk_windingEnd e h
  | wind => exact linkOk_windEnd e h
  | load => exact linkOk_threadingEnd e h

theorem linkOk_failAdvance (e : AdvanceEnd) (h : LinkOk s) : LinkOk (s.failAdvance e) := by
  unfold State.failAdvance
  split
  · exact h
  · exact linkOk_reportAdvance _ _ h

theorem linkOk_endRoll (q : Requester) (r : Roll) (h : LinkOk s) : LinkOk (s.endRoll q r) :=
  linkOk_reportAdvance _ _ (linkOk_changeRoll _ _ h)

theorem linkOk_endOpenRoll (q : Requester) (h : LinkOk s) : LinkOk (s.endOpenRoll q) := by
  unfold State.endOpenRoll
  split
  · exact linkOk_endRoll _ _ h
  · exact h

theorem linkOk_judgeStop (q : Requester) (d : Int) (n : Bool) (h : LinkOk s) : LinkOk (s.judgeStop q d n).1 := by
  unfold State.judgeStop
  dsimp only
  split
  · exact h
  · split
    · exact linkOk_endRoll _ _ h
    · split
      · exact linkOk_reportAdvance _ _ h
      · split
        · exact linkOk_reportAdvance _ _ (linkOk_createPositioned _ _ _ h)
        · exact linkOk_createFrame _ _ _ _ _ h

/-- R38, R41: an advance that may go on after a judged stop. -/
theorem linkOk_goOn {p : State × Bool} {f : State → State} (hf : ∀ {t : State}, LinkOk t → LinkOk (f t)) :
    LinkOk p.1 → LinkOk (match p with
      | (u, true) => f u
      | (u, false) => u) := by
  intro h
  obtain ⟨u, on⟩ := p
  cases on
  · exact h
  · exact hf h

theorem linkOk_takeAim (fuel : Nat) (q : Requester) (h : LinkOk s) : LinkOk (takeAim fuel q s) := by
  induction fuel generalizing s with
  | zero => exact h
  | succ n ih =>
    unfold takeAim
    split
    · exact h
    · split
      · exact linkOk_endRoll _ _ h
      · split
        · exact linkOk_reportAdvance _ _ h
        · dsimp only
          split
          · exact ih (linkOk_createFrame _ _ _ _ _ h)
          · exact ih (linkOk_createFrame _ _ _ _ _ h)
          · split
            · exact h
            · split
              · exact linkOk_goOn ih (linkOk_judgeStop _ _ _ h)
              · exact h

theorem linkOk_settleEnd (a : Advance) (h : LinkOk s) : LinkOk (s.settleEnd a) :=
  linkOk_goOn (linkOk_takeAim _ _) (linkOk_judgeStop _ _ _ h)

theorem linkOk_startAdvance (q : Requester) (h : LinkOk s) : LinkOk (s.startAdvance q) := by
  unfold State.startAdvance
  split
  · split
    · exact h
    · split
      · exact linkOk_reportAdvance _ _ h
      · refine linkOk_takeAim _ _ ?_
        unfold State.rebuildLimit
        split <;> exact h
  · exact h

theorem linkOk_enterWinding (h : LinkOk s) : LinkOk s.enterWinding :=
  linkOk_startAdvance (s := s.withCycle _) _ h

theorem linkOk_forward (h : LinkOk s) : LinkOk s.forward := by
  unfold State.forward
  split
  · exact h
  · rename_i it _
    have filled := linkOk_fillManual it h
    dsimp only
    split
    · exact linkOk_enterWinding filled
    · exact linkOk_forwardAtGate filled

theorem linkOk_limitInSettle (h : LinkOk s) : LinkOk s.limitInSettle := by
  unfold State.limitInSettle
  split
  · split
    · exact linkOk_endOpenRoll _ h
    · exact h
  · exact h

theorem linkOk_countUp (h : LinkOk s) : LinkOk s.countUp := by
  refine linkOk_foldl (fun _ => linkOk_raise _) _ ?_
  split
  · exact linkOk_limitInSettle h
  · exact h

theorem linkOk_holdCount (h : LinkOk s) : LinkOk s.holdCount := by
  unfold State.holdCount
  refine linkOk_failAdvance _ ?_
  split <;> exact h

theorem linkOk_encoderChange (a b a' b' : Bool) (h : LinkOk s) : LinkOk (s.encoderChange a b a' b') := by
  unfold State.encoderChange
  split
  · unfold State.countEvent
    split
    · exact h
    · split
      · split
        · exact linkOk_holdCount h
        · exact linkOk_countUp h
      · split
        · exact linkOk_holdCount h
        · exact h
  · exact h

theorem linkOk_indexEdge (h : LinkOk s) : LinkOk s.indexEdge := by
  unfold State.indexEdge
  dsimp only
  split
  · exact h
  · split
    · split
      · exact linkOk_failAdvance _ h
      · exact h
    · exact h

theorem linkOk_filmEnd (isOpen : Bool) (h : LinkOk s) : LinkOk (s.filmEnd isOpen) := by
  unfold State.filmEnd
  split
  · exact h
  · dsimp only
    split
    · exact linkOk_reportFilmEnd h
    · exact h

theorem linkOk_settleAfterStop (a : Advance) (h : LinkOk s) : LinkOk (s.settleAfterStop a) := by
  unfold State.settleAfterStop
  dsimp only
  split
  · exact linkOk_settleEnd _ h
  · exact h

theorem linkOk_stepExpiry (a : Advance) (e : Option StepEnd) (h : LinkOk s) : LinkOk (s.stepExpiry a e) := by
  unfold State.stepExpiry
  dsimp only
  split
  · split
    · exact linkOk_failAdvance _ h
    · exact h
  · exact linkOk_settleAfterStop _ h
  · exact linkOk_endOpenRoll _ h
  · exact linkOk_reportAdvance _ _ h

theorem linkOk_stepTimer (h : LinkOk s) : LinkOk s.stepTimer := by
  unfold State.stepTimer
  split
  · split
    · exact linkOk_stepExpiry _ _ h
    · exact h
  · exact h

theorem linkOk_settleTimer (h : LinkOk s) : LinkOk s.settleTimer := by
  unfold State.settleTimer
  split
  · split
    · exact linkOk_settleEnd _ h
    · exact h
  · exact h

/-! ### Exposures and readings -/

theorem linkOk_exposeGate (c : Context) (m : Nat) (h : LinkOk s) : LinkOk (s.exposeGate c m) := by
  unfold State.exposeGate
  split
  · dsimp only
    split <;> exact h
  · exact h

theorem linkOk_countNormal (r : ItemRef) (ask : Bool) (h : LinkOk s) : LinkOk (s.countNormal r ask) := by
  unfold State.countNormal
  split
  · exact h
  · split
    · split
      · exact h
      · split
        · dsimp only
          split
          · exact linkOk_fill _ h
          · exact h
        · exact linkOk_endActive _ _ _ h
    · exact h

theorem linkOk_reportNormal (r : ItemRef) (h : LinkOk s) : LinkOk (s.reportNormal r) := by
  unfold State.reportNormal
  split
  · exact linkOk_enterWinding (linkOk_countNormal _ _ h)
  · exact linkOk_countNormal _ _ h

theorem linkOk_outcomeNormal (c : Context) (h : LinkOk s) : LinkOk (s.outcomeNormal c) := by
  refine linkOk_reportNormal _ (linkOk_lookItem _ _ (LinkOk.same (linkOk_exposeGate c s.shutter.ticks h) ?_ ?_)) <;> simp

theorem linkOk_closingDone (p : Option PendingOutcome) (h : LinkOk s) : LinkOk (s.closingDone p) := by
  unfold State.closingDone
  split
  · exact linkOk_outcomeNormal _ h
  · exact linkOk_outcomeLamp _ h
  · exact h

theorem linkOk_expirePlan (h : LinkOk s) : LinkOk s.expirePlan := by
  unfold State.expirePlan
  split <;> exact h

theorem linkOk_shutterTick (h : LinkOk s) : LinkOk s.shutterTick := by
  unfold State.shutterTick
  dsimp only
  split
  · split
    · exact linkOk_expirePlan h
    · exact h
  all_goals exact h

theorem linkOk_contactOpens (h : LinkOk s) : LinkOk s.contactOpens := by
  unfold State.contactOpens
  dsimp only
  repeat' split
  all_goals exact h

theorem linkOk_contactCloses (h : LinkOk s) : LinkOk s.contactCloses := by
  unfold State.contactCloses
  split
  · dsimp only
    split
    · unfold State.earlyClose
      split
      · exact linkOk_outcomeNormal _ h
      · exact h
    · exact linkOk_closingDone _ h
    · exact h
    · exact h
  · exact h

theorem linkOk_openTimeout (h : LinkOk s) : LinkOk s.openTimeout := by
  unfold State.openTimeout
  split
  · exact linkOk_outcomeShutOpen _ h
  · exact h

theorem linkOk_closeTimeout (h : LinkOk s) : LinkOk s.closeTimeout := by
  unfold State.closeTimeout
  split
  · unfold State.closingLate
    split
    · exact linkOk_outcomeShutClose _ _ _ h
    · exact h
  all_goals exact h

theorem linkOk_warmActive (h : LinkOk s) : LinkOk s.warmActive := by
  unfold State.warmActive
  split <;> exact h

theorem linkOk_warmupDone (h : LinkOk s) : LinkOk s.warmupDone := by
  unfold State.warmupDone
  split
  · exact linkOk_forward h
  · exact h

theorem linkOk_offerCalibration (ch : Fin 4) (r : Nat) (h : LinkOk s) : LinkOk (s.offerCalibration ch r) := by
  unfold State.offerCalibration
  split
  · split
    · split
      · exact linkOk_raise _ h
      · exact h
    · exact h
  · exact h

theorem linkOk_completeMetering (m : Metering) (n : Nat) (h : LinkOk s) : LinkOk (s.completeMetering m n) := by
  unfold State.completeMetering
  dsimp only
  split
  · exact linkOk_fill (s := s.withdrawMetering) _ h
  · exact linkOk_forward (linkOk_fill (s := s.withdrawMetering) _ h)

theorem linkOk_offerMetering (w : Option Metering) (ch : Fin 4) (r : Nat) (h : LinkOk s) :
    LinkOk (s.offerMetering w ch r) := by
  unfold State.offerMetering
  split
  · split
    · split
      · exact linkOk_completeMetering _ _ h
      · exact h
    · exact h
  · exact h

theorem linkOk_judgeWindows (ch : Fin 4) (r : Nat) (h : LinkOk s) : LinkOk (s.judgeWindows ch r) := by
  unfold State.judgeWindows
  dsimp only
  repeat' split
  all_goals exact h

theorem linkOk_readingDone (r : Nat) (h : LinkOk s) : LinkOk (s.readingDone r) :=
  linkOk_judgeWindows _ _ (linkOk_offerMetering _ _ _ (linkOk_offerCalibration _ _ h))

/-! ### Labels -/

theorem linkOk_startHead (h : LinkOk s) : LinkOk s.startHead := by
  unfold State.startHead
  split
  · unfold State.startLabel
    dsimp only
    split
    · exact linkOk_raise _ h
    · exact h
  · exact h

theorem linkOk_printedFrame (f : Frame) (h : LinkOk s) : LinkOk (s.printedFrame f) := by
  unfold State.printedFrame State.markPrinted
  refine linkOk_checkRoll _ ?_
  cases f.ref with
  | none => exact h
  | some r => exact linkOk_lookItem _ _ h

theorem linkOk_afterLabel (hand : LabelHand) (h : LinkOk s) : LinkOk (s.afterLabel hand) := by
  unfold State.afterLabel
  dsimp only
  split
  · exact linkOk_startHead h
  · exact linkOk_raise _ h

theorem linkOk_completeLabel (hand : LabelHand) (h : LinkOk s) : LinkOk (s.completeLabel hand) := by
  unfold State.completeLabel
  dsimp only
  refine linkOk_afterLabel hand ?_
  split
  · split
    · exact linkOk_printedFrame _ h
    · exact h
  · exact h

theorem linkOk_feedRow (h : LinkOk s) : LinkOk s.feedRow := by
  unfold State.feedRow
  split
  · split
    · exact linkOk_raise _ h
    · exact h
  · exact h

theorem linkOk_compose (r f : Nat) (h : LinkOk s) : LinkOk (s.compose r f) := by
  unfold State.compose
  split
  · exact h.same rfl rfl
  · exact h

theorem linkOk_labelEdge (h : LinkOk s) : LinkOk s.labelEdge := by
  unfold State.labelEdge
  split
  · exact (linkOk_compose _ _ h).same rfl rfl
  · exact h

theorem linkOk_presentRow (h : LinkOk s) : LinkOk s.presentRow := by
  unfold State.presentRow
  split
  · split
    · exact linkOk_completeLabel _ h
    · exact h
  · exact h

theorem linkOk_paperStall (h : LinkOk s) : LinkOk s.paperStall := by
  unfold State.paperStall
  split
  · exact linkOk_raise _ h
  · exact h

theorem linkOk_paperGone (h : LinkOk s) : LinkOk s.paperGone := by
  unfold State.paperGone
  split
  · exact h
  · dsimp only
    split
    · exact linkOk_paperStall h
    · exact linkOk_paperStall h
    · exact linkOk_paperStall h
    all_goals exact h

theorem linkOk_paperBack (h : LinkOk s) : LinkOk s.paperBack := by
  unfold State.paperBack
  dsimp only
  repeat' split
  all_goals exact h

/-! ### The starts (R183) -/

/-- R181, R183: a start leaves the Line Link with nothing in it. -/
theorem linkOk_start {s : State} {rate : Nat} (link : s.link = Link.start rate) (outbox : s.outbox = Outbox.start) : LinkOk s := by
  refine ⟨link ▸ shape_start rate, ?_, fun _ => ?_⟩
  · rw [outbox]
    exact List.nodup_nil
  · rw [link, outbox]
    exact ⟨rfl, rfl⟩

theorem linkOk_warmBlocks (s : State) : LinkOk s.warmBlocks := by
  unfold State.warmBlocks State.readFilmEnd
  dsimp only
  split
  · exact linkOk_reportFilmEnd (linkOk_start rfl rfl)
  · exact linkOk_start rfl rfl

theorem linkOk_treatGate (h : LinkOk s) : LinkOk s.treatGate := by
  unfold State.treatGate
  split
  · exact linkOk_spoilGate _ _ _ h
  · exact linkOk_voidGate _ h

theorem linkOk_warmItem (h : LinkOk s) : LinkOk s.warmItem := by
  unfold State.warmItem
  split
  · exact linkOk_endCancelPending h
  · exact h

theorem linkOk_warm (s : State) : LinkOk s.warm := by
  have rebuilt := linkOk_rebuildWaiting (linkOk_warmItem (linkOk_treatGate (linkOk_warmBlocks s)))
  refine rebuilt.same ?_ ?_ <;> simp only [State.warm, State.setStartRecord_link, State.setStartRecord_outbox]

end

/-! ## The owners of the requests (R170) -/

/-- What an owner keeps of the Line Link: its shape, the replies and the kinds of the notices. -/
structure Spares (s t : State) : Prop where
  shape : LinkShape s.link → LinkShape t.link
  replies : t.link.replies = s.link.replies
  notices : s.outbox.distinct → t.outbox.distinct

theorem Spares.same {s t : State} (link : t.link = s.link) (outbox : t.outbox = s.outbox) : Spares s t :=
  ⟨fun h => link ▸ h, by rw [link], fun h => outbox ▸ h⟩

theorem Spares.of_stays {s t : State} (h : Stays s t) : Spares s t :=
  ⟨fun k => h.link ▸ k, by rw [h.link], h.notices⟩

theorem Spares.trans {s t u : State} (h : Spares s t) (k : Spares t u) : Spares s u :=
  ⟨fun i => k.shape (h.shape i), k.replies.trans h.replies, fun i => k.notices (h.notices i)⟩

/-- R178, R182: an accepted RSET or WIPE empties the slots and leaves the replies. -/
theorem startDiscard_spares (s : State) : Spares s s.startDiscard := ⟨shape_startDiscard, rfl, id⟩

theorem clearNotices_spares (s : State) : Spares s s.clearNotices := ⟨id, rfl, fun _ => List.nodup_nil⟩

theorem resetAll_stays (s : State) : Stays s s.resetAll := by
  have closed : ∀ t : State, Stays t t.resetClosing := by
    intro t
    unfold State.resetClosing
    split
    · exact State.closingDone_stays _ t
    all_goals exact Stays.refl t
  exact ((State.abortAll_stays s).trans (closed _)).trans (State.resetBlocks_sound _).1.stays

theorem ownWipe_spares (all : Bool) (s : State) : Spares s (ownWipe all s).1 := by
  cases all with
  | false => exact .same rfl rfl
  | true => exact (Spares.of_stays (State.abortAll_stays s)).trans (startDiscard_spares _)

theorem ownRset_spares (s : State) : Spares s (ownRset s).1 :=
  (((clearNotices_spares s).trans (.of_stays (resetAll_stays _))).trans (startDiscard_spares _)).trans (.same rfl rfl)

theorem ownLoad_spares (film : Int) (length : Option Int) (s : State) : Spares s (ownLoad film length s).1 := by
  unfold ownLoad
  iterate 4
    split
    · exact .same rfl rfl
  exact (Spares.same (s := s) (t := s.loadRoll _) rfl rfl).trans (.of_stays (State.startAdvance_stays _ _))

theorem gateLost_spares (s : State) : Spares s s.gateLost := by
  unfold State.gateLost
  split <;> exact .same rfl rfl

theorem ownUnld_spares (s : State) : Spares s (ownUnld s).1 := by
  unfold ownUnld
  split
  · exact .same rfl rfl
  · split
    · exact .same rfl rfl
    · exact (Spares.of_stays ((State.voidGate_stays _ s).trans (State.changeRoll_stays _ _ _))).trans (gateLost_spares _)

theorem decide_stays (r : ItemRef) (named : Frame → Bool) (s : State) : Stays s (s.decide r named) := by
  unfold State.decide
  dsimp only
  refine Stays.trans (Stays.trans ?_ (State.lookItem_stays _ _ _)) (foldl_stays _ (fun t n => State.checkRoll_stays n t) _ _)
  refine Stays.trans (Quiet.stays ?_) (State.updateItem_stays _ _ _ _)
  constructor <;> simp [decideFrames]

theorem ownPick_spares (frames : List (Int × Int)) (s : State) : Spares s (ownPick frames s).1 := by
  unfold ownPick
  split
  · exact .same rfl rfl
  · exact .of_stays (decide_stays _ _ s)

theorem ownRjct_spares (roll frame : Int) (s : State) : Spares s (ownRjct roll frame s).1 := by
  unfold ownRjct
  split
  · exact .same rfl rfl
  · exact .of_stays (decide_stays _ _ s)

theorem ownWind_spares (s : State) : Spares s (ownWind s).1 := by
  unfold ownWind
  iterate 2
    split
    · exact .same rfl rfl
  split
  · exact .same rfl rfl
  · iterate 2
      split
      · exact .same rfl rfl
    exact .of_stays ((State.voidGate_stays _ s).trans (State.startAdvance_stays _ _))

theorem ownPrnt_spares (roll : Int) (s : State) : Spares s (ownPrnt roll s).1 := by
  unfold ownPrnt
  split
  · exact .same rfl rfl
  · split
    · exact .same rfl rfl
    · split
      · exact .same rfl rfl
      · dsimp only
        split
        · exact (Spares.same (s := s) (t := s.enqueue _ _) rfl rfl).trans (.of_stays (startIfIdle_stays _))
        · exact .same rfl rfl

theorem ownPstp_spares (s : State) : Spares s (ownPstp s).1 := by
  unfold ownPstp
  split
  · exact .same rfl rfl
  · exact .of_stays (dropLabel_stays _ s)
  all_goals exact .same rfl rfl

theorem ownAcctWrite_spares (account : Int) (name : Text) (cls : Int) (allowance : Option (Option Int))
    (state : Option (Option AcctState)) (s : State) : Spares s (ownAcctWrite account name cls allowance state s).1 := by
  unfold ownAcctWrite
  split
  · exact .same rfl rfl
  · dsimp only
    split
    · exact .of_stays (writeAccount_stays _ _ s)
    · split <;> exact .same rfl rfl

/-- R170: every request is its owner's, and every owner leaves the Line Link its shape. -/
theorem request_owner {c : Instr} (h : isRequest c = true) :
    ∃ v own, (∀ s, exec c s = request v own s) ∧ ∀ s, Spares s (own s).1 := by
  cases c
  case load film length => exact ⟨_, _, fun _ => rfl, ownLoad_spares film length⟩
  case unld => exact ⟨_, _, fun _ => rfl, ownUnld_spares⟩
  case pick frames => exact ⟨_, _, fun _ => rfl, ownPick_spares frames⟩
  case rjct roll frame => exact ⟨_, _, fun _ => rfl, ownRjct_spares roll frame⟩
  case wind => exact ⟨_, _, fun _ => rfl, ownWind_spares⟩
  case prnt roll => exact ⟨_, _, fun _ => rfl, ownPrnt_spares roll⟩
  case pstp => exact ⟨_, _, fun _ => rfl, ownPstp_spares⟩
  case acctWrite account name cls allowance state =>
    exact ⟨_, _, fun _ => rfl, ownAcctWrite_spares account name cls allowance state⟩
  case wipe all => exact ⟨_, _, fun _ => rfl, ownWipe_spares all⟩
  case rset => exact ⟨_, _, fun _ => rfl, ownRset_spares⟩
  case abrt => exact ⟨_, _, fun _ => rfl, fun s => .of_stays (State.abortAll_stays s)⟩
  case rprt roll frame => exact ⟨_, _, fun _ => rfl, fun s => .of_stays (ownRprt_stays roll frame s)⟩
  case post order => exact ⟨_, _, fun _ => rfl, fun s => .of_stays (ownPost_stays order s)⟩
  case free order => exact ⟨_, _, fun _ => rfl, fun s => .of_stays (ownFree_stays order s)⟩
  case cnclOrder order => exact ⟨_, _, fun _ => rfl, fun s => .of_stays (ownCnclOrder_stays order s)⟩
  case cnclItem order item => exact ⟨_, _, fun _ => rfl, fun s => .of_stays (ownCnclItem_stays order item s)⟩
  case run => exact ⟨_, _, fun _ => rfl, fun s => .of_stays (ownRun_stays s)⟩
  case rsum => exact ⟨_, _, fun _ => rfl, fun s => .of_stays (ownRsum_stays s)⟩
  case zero account => exact ⟨_, _, fun _ => rfl, fun s => .of_stays (ownZero_stays account s)⟩
  case take n => exact ⟨_, _, fun _ => rfl, fun s => .of_stays (ownTake_stays n s)⟩
  case fram | rollList | rollQuery | markList | zoneList | rampList | confQuery | confList | offsList | gainQuery |
      calbQuery | wtchQuery | read | filmQuery | planQuery | trimQuery | ctxq | ordrQuery | itemQuery | liteQuery |
      cycl | glyfQuery | emblQuery | ltxt | densQuery | lque | rateQuery | tierList | acctQuery | takeState | stat | mems =>
    exact ⟨_, _, fun _ => rfl, fun s => .same rfl rfl⟩
  case drop | markRegister | markRemove | zoneWrite | zoneClear | rampWrite | confWrite | offsWrite | offsEmpty |
      gainWrite | calbStart | wtchWrite | filmWrite | planWrite | trimWrite | ordrCreate | itemAdd | hold | go | liteSet |
      paus | glyfLoad | emblWindow | emblClear | dots | densWrite | rateWrite | tierWrite | tierClear | acctRemove =>
    refine ⟨_, _, fun _ => rfl, fun s => ?_⟩
    simp only [ownDrop, ownMarkRegister, ownMarkRemove, ownZoneWrite, ownZoneClear, ownRampWrite, State.stageRamp,
      ownConfWrite, ownConfEncoder, ownConfBaud, ownConfNum, ownOffsWrite, ownOffsEmpty, ownGainWrite, ownCalbStart,
      ownWtchWrite, ownFilmWrite, ownPlanWrite, ownTrimWrite, State.setTrim, ownOrdrCreate, ownItemAdd, ownHold, ownGo,
      State.warmActive, ownLiteSet, ownPaus, ownGlyfLoad, ownEmblWindow, ownEmblClear, ownDots, ownDensWrite, ownRateWrite,
      ownTierWrite, ownTierClear, ownAcctRemove]
    repeat' split
    all_goals exact .same rfl rfl
  all_goals cases h
  -- CALC is left, a query too: the name of its constructor is a keyword, so no `case` can name it.
  exact ⟨_, _, fun _ => rfl, fun s => .same rfl rfl⟩

/-! ## Requests and events that are not taken (R170, R178, R180, R185) -/

theorem whenLive_of_not_live {s : State} (down : s.live = false) (f : State → State) : whenLive f s = .next s := by
  simp [whenLive, down]

theorem whenLiveLine_of_not_live {s : State} (down : s.live = false) (level : InputLines → InputLines) (f : State → State) :
    whenLiveLine level f s = .next { s with lines := level s.lines } := by
  simp [whenLiveLine, down]

theorem canTake_iff (s : State) : s.canTake = true ↔
    s.live = true ∧ s.link.discard = false ∧ s.link.overOwed = 0 ∧ s.link.replies.length < 4 := by
  simp only [State.canTake, Bool.and_eq_true, Bool.not_eq_true', beq_iff_eq, decide_eq_true_eq, and_assoc]
  exact Iff.rfl

theorem live_iff (s : State) : s.live = true ↔ s.supply = .running ∧ s.resetLow = false := by
  simp [State.live]

theorem canTake_of_not_live {s : State} (down : s.live = false) : s.canTake = false := by
  simp [State.canTake, down]

/-- R185: a reading that can be one is dropped while the part does not run. -/
theorem readingComplete_not_live {s : State} (down : s.live = false) {reading : Nat} (possible : reading ≤ 65520) :
    exec (.readingComplete reading) s = .next s := by
  simp [exec, execReadingComplete, possible, whenLive_of_not_live down]

theorem dispatch_not_taken {s : State} (waits : s.canTake = false) : exec .dispatch s = .next s := by
  simp [exec, execDispatch, waits]

/-- R180, R185: no event of the stand, the line or the part's own timers is taken while the part does not run. -/
theorem standEvent_not_live {c : Instr} (event : standEvent c = true) (formed : c.wellFormed = true) {s : State}
    (down : s.live = false) : exec c s = .next { s with lines := linesAfter c s.lines } := by
  cases c
  case readingComplete reading => exact readingComplete_not_live down (of_decide_eq_true formed)
  case dispatch => exact dispatch_not_taken (canTake_of_not_live down)
  case countEvent | filmEndChange | contactOpen | contactClosed | paperOut | paperIn =>
    simp only [exec, execCountEvent, execFilmEndChange, execContactOpen, execContactClosed, execPaperOut, execPaperIn,
      whenLiveLine_of_not_live down, linesAfter]
  all_goals first | exact whenLive_of_not_live down _ | cases event

/-- Settles O4: a request waits by its owner's frame, and each event by the frame that it is taken in. -/
theorem commandsNotTakenChangeNothing : Obligations.CommandsNotTakenChangeNothing := by
  refine ⟨fun c s asked waits => ?_, fun c s event formed down => standEvent_not_live event formed down,
    fun s => ⟨live_iff s, canTake_iff s⟩⟩
  obtain ⟨v, own, owner, -⟩ := request_owner asked
  rw [owner]
  exact request_waits v own s waits

/-! ## Every step keeps the Line Link in shape (R167, R170, R174, R175) -/

section
variable {s : State}

/-- R170: a reply joins a queue that has a free place. -/
theorem linkOk_placeReply (r : Reply) (shape : LinkShape s.link) (distinct : s.outbox.distinct)
    (room : s.link.replies.length < Config.maxReplies) : LinkOk (s.placeReply r) :=
  linkOk_wake ⟨shape.slots, shape.slotWf, shape.filling, shape.lost, length_concat_le room⟩ distinct

theorem room_of_canTake (taken : s.canTake = true) : s.link.replies.length < Config.maxReplies := by
  simp only [State.canTake, Bool.and_eq_true, decide_eq_true_eq] at taken
  exact taken.2

theorem linkOk_answer {v : Verb} {own : State → State × Answer} (spares : ∀ t, Spares t (own t).1) (h : LinkOk s)
    (taken : s.canTake = true) : LinkOk (s.answer v own) := by
  obtain ⟨shape, replies, notices⟩ := spares s.reserveTx
  have room : (own s.reserveTx).1.link.replies.length < Config.maxReplies := by
    rw [replies, State.reserveTx_link]
    exact room_of_canTake taken
  have shape := shape (by rw [State.reserveTx_link]; exact h.1)
  have distinct := notices (by rw [Outbox.distinct, State.reserveTx_notices]; exact h.2.1)
  unfold State.answer
  cases v == .dots <;> exact linkOk_placeReply _ shape distinct room

theorem linkOk_request {v : Verb} {own : State → State × Answer} (spares : ∀ t, Spares t (own t).1) (h : LinkOk s) {t : State}
    (e : request v own s = .next t) : LinkOk t := by
  cases e
  split
  · exact linkOk_answer spares h ‹_›
  · exact h

theorem linkOk_refuseLine (x : LineSlot) (a : Answer) (h : LinkOk s) (taken : s.canTake = true) :
    LinkOk (s.refuseLine x a) := by
  unfold State.refuseLine
  dsimp only
  split <;> exact linkOk_placeReply _ h.1 h.2.1 (room_of_canTake taken)

theorem linkOk_oweOvers (n : Nat) (h : LinkOk s) : LinkOk (s.oweOvers n) := by
  unfold State.oweOvers
  split
  · exact h
  · exact linkOk_wake (shape_placeOvers (h.1.owe _)) h.2.1

/-- R170: a dispatched slot is answered as a partial line, a refused line or a request, and its OVER replies follow. -/
theorem linkOk_slotDispatch (x : LineSlot) (h : LinkOk s) (taken : s.canTake = true) {t : State}
    (e : x.dispatch s = .next t) : LinkOk t := by
  have owed : ∀ {u : State}, LinkOk u → thenNext (State.oweOvers x.overrun) (.next u) = .next t → LinkOk t := by
    intro u ok e
    cases e
    exact linkOk_oweOvers _ ok
  unfold LineSlot.dispatch at e
  split at e
  · exact owed (linkOk_placeReply _ h.1 h.2.1 (room_of_canTake taken)) e
  · split at e
    · exact owed (linkOk_refuseLine _ _ h taken) e
    · rename_i v i accepted
      have asked : isRequest i = true := by
        unfold LineSlot.check at accepted
        split at accepted
        · cases accepted
        · exact checkLine_isRequest accepted
      obtain ⟨v, own, owner, spares⟩ := request_owner asked
      rw [← exec_request asked, owner] at e
      exact owed (linkOk_request spares h rfl) e

theorem linkOk_dispatch (h : LinkOk s) {t : State} (e : execDispatch s = .next t) : LinkOk t := by
  unfold execDispatch at e
  split at e
  · rename_i taken
    split at e
    · rename_i oldest
      exact linkOk_slotDispatch (s := { s with link := { s.link with slots := _ } }) _ ⟨shape_dispatched h.1 oldest, h.2⟩ taken e
    · cases e
      exact h
  · cases e
    exact h

/-- R175: what follows a reply touches the rate and the discarding of lines alone. -/
theorem shape_afterReply (a : After) (h : LinkShape s.link) : LinkShape (s.afterReply a).link := by
  cases a <;> exact ⟨h.slots, h.slotWf, h.filling, h.lost, h.replies⟩

theorem afterReply_outbox (a : After) : (s.afterReply a).outbox = s.outbox := by cases a <;> rfl

theorem LinkShape.sent {l : Link} (h : LinkShape l) {r : Reply} {rest : List Reply} (replies : l.replies = r :: rest) :
    LinkShape { l with replies := rest } := by
  refine ⟨h.slots, h.slotWf, h.filling, h.lost, ?_⟩
  have room := h.replies
  rw [replies, List.length_cons] at room
  exact Nat.le_of_succ_le room

theorem linkOk_lineSent (h : LinkOk s) : LinkOk s.lineSent := by
  unfold State.lineSent
  split
  · exact h
  · exact linkOk_chooseLine h.1 h.2.1
  · split
    · exact linkOk_chooseLine h.1 h.2.1
    · rename_i r rest replies
      refine linkOk_chooseLine (shape_placeOvers (shape_afterReply _ (h.1.sent replies))) ?_
      dsimp only
      rw [afterReply_outbox]
      exact h.2.1

/-- An event that is taken under a condition only. -/
theorem linkOk_if {c : Prop} [Decidable c] {t : State} (ht : LinkOk t) (h : LinkOk s) : LinkOk (if c then t else s) := by
  split
  · exact ht
  · exact h

/-- An event that ends in the state it makes, or, where it is not taken, in the other. -/
theorem linkOk_taken {c : Prop} [Decidable c] {u v t : State} (e : Host.Outcome.next (if c then u else v) = (.next t : Out))
    (hu : LinkOk u) (hv : LinkOk v) : LinkOk t := by
  cases e
  exact linkOk_if hu hv

theorem linkOk_supplyEvent {c : Instr} (event : supplyEvent c = true) (h : LinkOk s) {t : State} (e : exec c s = .next t) :
    LinkOk t := by
  cases c
  case powerFailWarning =>
    cases e
    split
    · exact h.same rfl rfl
    · exact linkOk_if (h.same rfl rfl) h
  case vccFailure => exact linkOk_taken e (linkOk_start (s := s.powerLost) rfl rfl) h
  case batteryExhausted => exact linkOk_taken e (h.same rfl rfl) h
  case powerOn =>
    cases e
    have cold : LinkOk (State.cold .cold s.lines s.pending) := linkOk_start rfl rfl
    split
    · exact h
    · exact linkOk_if (linkOk_warm s) cold
  case wipeColdStart => exact linkOk_taken e (linkOk_start (s := State.cold .wipe s.lines s.pending) rfl rfl) h
  case resetLine => exact linkOk_taken e (linkOk_start rfl rfl) h
  case resetRelease => exact linkOk_taken e (h.same rfl rfl) h
  all_goals cases event

/-- R170, R180, R185: an event is taken only while the part runs, and a command of the line or the stand keeps the Link. -/
theorem linkOk_standEvent {c : Instr} (event : standEvent c = true) (h : LinkOk s) {t : State} (e : exec c s = .next t) :
    LinkOk t := by
  cases c
  case dispatch => exact linkOk_dispatch h e
  case readingComplete reading =>
    change execReadingComplete reading s = .next t at e
    unfold execReadingComplete at e
    split at e
    · exact linkOk_taken e (linkOk_readingDone _ h) h
    · cases e
  case countEvent => exact linkOk_taken e (linkOk_encoderChange _ _ _ _ h) h
  case indexEdge => exact linkOk_taken e (linkOk_indexEdge h) h
  case filmEndChange => exact linkOk_taken e (linkOk_filmEnd _ h) h
  case stepTimerExpiry => exact linkOk_taken e (linkOk_stepTimer h) h
  case stallLimit => exact linkOk_taken e (linkOk_if (linkOk_stepTimer h) h) h
  case settleExpiry => exact linkOk_taken e (linkOk_settleTimer h) h
  case footswitchPress => exact linkOk_taken e (linkOk_if (linkOk_warmActive h) h) h
  case warmupExpiry => exact linkOk_taken e (linkOk_if (linkOk_warmupDone h) h) h
  case contactOpen => exact linkOk_taken e (linkOk_contactOpens h) h
  case openTimeout => exact linkOk_taken e (linkOk_openTimeout h) h
  case plannedTicksExpiry => exact linkOk_taken e (linkOk_if (linkOk_expirePlan h) h) h
  case contactClosed => exact linkOk_taken e (linkOk_contactCloses h) h
  case closeTimeout => exact linkOk_taken e (linkOk_closeTimeout h) h
  case feedRowStep => exact linkOk_taken e (linkOk_feedRow h) h
  case feedRowLimit => exact linkOk_taken e (linkOk_if (linkOk_feedRow h) h) h
  case labelEdge => exact linkOk_taken e (linkOk_labelEdge h) h
  case strobeEnd | rowTransferComplete | printPaperStep | paperWaitExpiry => exact linkOk_taken e h h
  case presentRowStep => exact linkOk_taken e (linkOk_presentRow h) h
  case labelComplete => exact linkOk_taken e (linkOk_if (linkOk_presentRow h) h) h
  case paperOut => exact linkOk_taken e (linkOk_paperGone h) h
  case paperIn => exact linkOk_taken e (linkOk_paperBack h) h
  case waitingListWork => exact linkOk_taken e (linkOk_workWaiting _ h) h
  case characterReceived c framing => exact linkOk_taken e (linkOk_withLink (fun _ => shape_receive c framing) h) h
  case lineComplete =>
    refine linkOk_taken e (linkOk_withLink (fun l shape => ?_) h) h
    split
    · exact shape_lineEnd shape
    · exact shape
  case partialLineTimeout => exact linkOk_taken e (linkOk_withLink (fun _ => shape_partialTimeout) h) h
  case overrunLineEnd | overrunLineTimeout => exact linkOk_taken e (linkOk_withLink (fun _ => shape_overrunEnd) h) h
  case lineSent => exact linkOk_taken e (linkOk_lineSent h) h
  all_goals cases event

theorem linkOk_exec (c : Instr) (h : LinkOk s) {t : State} (e : exec c s = .next t) : LinkOk t := by
  cases event : standEvent c with
  | true => exact linkOk_standEvent event h e
  | false =>
    cases supply : supplyEvent c with
    | true => exact linkOk_supplyEvent supply h e
    | false =>
      obtain ⟨v, own, owner, spares⟩ := request_owner (c := c) (by simp [isRequest, event, supply])
      exact linkOk_request spares h (owner s ▸ e)

end

/-- Settles O5: a step carries out a command, which keeps the Link in shape, or lets a tick pass, which raises no notice. -/
theorem stepKeepsLineLink : Obligations.StepKeepsLineLink := by
  intro s t wf e
  have h := (linkOk_iff s).mpr wf
  refine (linkOk_iff t).mp ?_
  unfold step at e
  split at e
  · rename_i c rest _
    exact linkOk_exec (s := { s with pending := rest }) c h e
  · cases e
    exact linkOk_if (linkOk_shutterTick h) h

end Sys2Proof.LineLaws

/-! PROOFS. The statement on the step itself: which command it carries out, and on which state. -/

namespace Sys2Proof.StepLaws

open Sys2Proof.Machine

/-- Settles O1: the front command decides the branch of `step`, the one that carries it out. -/
theorem stepRunsFrontCommand : Obligations.StepRunsFrontCommand := by
  intro s c rest queue
  unfold step
  rw [queue]

end Sys2Proof.StepLaws
